-- ==== Sys2Proof/Word.lean ====
section
/-! DEFINITION. The word types of the Daskel 4808: bytes and multi-byte fields of the link, and the dot set of the glass. -/

namespace Sys2Proof

/-- One byte of the serial link (R156, R173). -/
abbrev Byte := BitVec 8

/-- A two-byte field: a duration, a remaining time or a report mask (R173). -/
abbrev Half := BitVec 16

/-- A four-byte field: a value, a delta or a sequence number (R173). -/
abbrev Quad := BitVec 32

/-- A set of the 384 dots of the glass in the picture of R175: byte `s` holds segment `s`, and bit `c` of that byte is the
dot (common `c`, segment `s`). Images, blink masks and composed frames are dot sets. -/
abbrev Dots := Vector Byte 48

/-- The dot set with no dot in it. -/
def Dots.none : Dots := Vector.replicate 48 0

end Sys2Proof
end

