-- ==== Sys2Proof/Config.lean ====
section
/-! DEFINITION. What the manual fixes once for the part: capacities (R169), wire constants (R157) and identification values.
The manual leaves no result of a command open, so there is no free value here. -/

namespace Sys2Proof.Config

/-- Page records the store holds at most (R2). -/
def maxPages : Nat := 24
/-- Steps of one rotation list at most (R59). -/
def maxSteps : Nat := 16
/-- Override records the stack holds at most (R75). -/
def maxOverrides : Nat := 6
/-- Report records the queue holds at most (R146). -/
def maxReports : Nat := 16
/-- Requests the unanswered set holds at most (R161, R162). -/
def maxUnanswered : Nat := 4
/-- Places of the reply queue (R163). -/
def replyPlaces : Nat := 8
/-- Second ticks after which an unnamed draft expires (R9). -/
def draftIdleLimit : Nat := 10
/-- Second ticks after which a hold expires (R104). -/
def holdLimit : Nat := 2
/-- The highest sequence number of a bank image (R133, R134). -/
def maxSequence : Nat := 4294967295
/-- The largest remaining time a REMAIN field can show (R36). -/
def maxRemainShown : Nat := 5999
/-- The least and the greatest number a value register holds (R38). -/
def minValue : Int := -99999
/-- See `minValue`. -/
def maxValue : Int := 999999
/-- Counts of the prescaler in one tick-source second (R94). -/
def secondCounts : Nat := 32768
/-- The prescaler's count at the half-second tick in the middle of a second (R94). -/
def halfCounts : Nat := 16384
/-- Start byte of a request frame (R157). -/
def requestSof : Byte := 0xA5
/-- Start byte of a reply frame (R157). -/
def replySof : Byte := 0xA6
/-- Payload bytes of a request at most (R157). -/
def maxPayload : Nat := 63

end Sys2Proof.Config
end

