-- ==== Sys2Proof/Syntax.lean ====
section
/-! DEFINITION. The commands of the block: one constructor for each row of spec/opcode_table.json, in the table's order.
The first 48 are the requests of the message link (R174's table of codes); their operands are the tag and the payload fields
of 11.2, in wire order, as the bytes the owner reads (R173). The other 32 are the happenings of the link, the starts, the
time base and the blocks. -/

namespace Sys2Proof

/-- One of the two archive banks (R133). -/
inductive BankId where
  | a
  | b
deriving DecidableEq, Repr

/-- A request as the link holds it: tag, request code and payload (R157). -/
structure Request where
  tag : Byte
  code : Byte
  payload : List Byte
deriving DecidableEq, Repr

/-- A command of the block. A request command stands for the request itself: its owner takes it when the link has handed it
over, and otherwise the host sends it (`Sys2Proof.Machine.takeRequest`, log entry 3). -/
inductive Instr where
  /-- PING (R169). -/
  | ping (tag : Byte) (bytes : List Byte)
  /-- IDENTIFY (R169). -/
  | identify (tag : Byte)
  /-- STATUS (R170). -/
  | status (tag : Byte)
  /-- RESTART (R171). -/
  | restart (tag : Byte)
  /-- FETCH_REPORTS (R149). -/
  | fetchReports (tag : Byte) (max : Byte)
  /-- SET_REPORT_MASK (R151). -/
  | setReportMask (tag : Byte) (mask : Half)
  /-- SET_ATTN (R152). -/
  | setAttn (tag : Byte) (enable : Byte)
  /-- SET_TIME (R99, R100). -/
  | setTime (tag : Byte) (year month day hour minute second hold : Byte)
  /-- RELEASE_TIME (R102). -/
  | releaseTime (tag : Byte)
  /-- GET_TIME (R107). -/
  | getTime (tag : Byte)
  /-- SET_SYNC (R103). -/
  | setSync (tag : Byte) (enable : Byte)
  /-- SET_GLASS (R43). -/
  | setGlass (tag : Byte) (duty rate : Byte)
  /-- SET_DISPLAY (R46). -/
  | setDisplay (tag : Byte) (mode invert contrast rowMask : Byte)
  /-- GET_DISPLAY (R48). -/
  | getDisplay (tag : Byte)
  /-- SET_CELL (R26): the eight references in the order a to g, point, each (common, segment). -/
  | setCell (tag : Byte) (cell : Byte) (refs : List (Byte × Byte))
  /-- CLEAR_CELL (R27). -/
  | clearCell (tag : Byte) (cell : Byte)
  /-- GET_CELL (R28). -/
  | getCell (tag : Byte) (cell : Byte)
  /-- SET_VALUE (R38): the value is a two's complement number. -/
  | setValue (tag : Byte) (register : Byte) (value : Quad)
  /-- ADD_VALUE (R39). -/
  | addValue (tag : Byte) (register : Byte) (delta : Quad)
  /-- GET_VALUE (R40). -/
  | getValue (tag : Byte) (register : Byte)
  /-- OPEN_DRAFT (R5, R6). -/
  | openDraft (tag : Byte) (page base : Byte)
  /-- WRITE_DOTS (R7). -/
  | writeDots (tag : Byte) (draft offset : Byte) (bytes : List Byte)
  /-- WRITE_BLINK (R8). -/
  | writeBlink (tag : Byte) (draft offset : Byte) (bytes : List Byte)
  /-- BIND_FIELD (R31). -/
  | bindField (tag : Byte) (draft index source register first count options : Byte)
  /-- UNBIND_FIELD (R32). -/
  | unbindField (tag : Byte) (draft index : Byte)
  /-- COMMIT (R12, R13). -/
  | commit (tag : Byte) (draft : Byte)
  /-- ABANDON (R11). -/
  | abandon (tag : Byte) (draft : Byte)
  /-- DELETE_PAGE (R18, R19). -/
  | deletePage (tag : Byte) (page : Byte)
  /-- LIST_PAGES (R21). -/
  | listPages (tag : Byte)
  /-- READ_PAGE (R22, R23). -/
  | readPage (tag : Byte) (page part offset : Byte)
  /-- SET_LIST (R63): each step is (page id, dwell). -/
  | setList (tag : Byte) (list wrap : Byte) (steps : List (Byte × Byte))
  /-- GET_LIST (R64). -/
  | getList (tag : Byte) (list : Byte)
  /-- SELECT_LIST (R65). -/
  | selectList (tag : Byte) (list : Byte)
  /-- PAUSE_ROTATION (R69). -/
  | pauseRotation (tag : Byte)
  /-- RESUME_ROTATION (R69). -/
  | resumeRotation (tag : Byte)
  /-- SHOW_NOW (R76). -/
  | showNow (tag : Byte) (page priority : Byte) (duration : Half)
  /-- CLEAR_OVERRIDE (R81). -/
  | clearOverride (tag : Byte) (page : Byte)
  /-- CLEAR_BELOW (R83). -/
  | clearBelow (tag : Byte) (priority : Byte)
  /-- LIST_OVERRIDES (R87). -/
  | listOverrides (tag : Byte)
  /-- SET_ENTRY (R112, R114). -/
  | setEntry (tag : Byte) (slot minute hour day weekdays month flags action arg1 arg2 : Byte) (duration : Half)
  /-- CLEAR_ENTRY (R115). -/
  | clearEntry (tag : Byte) (slot : Byte)
  /-- ARM_ENTRY (R116). -/
  | armEntry (tag : Byte) (slot : Byte)
  /-- DISARM_ENTRY (R116). -/
  | disarmEntry (tag : Byte) (slot : Byte)
  /-- GET_ENTRY (R117). -/
  | getEntry (tag : Byte) (slot : Byte)
  /-- SAVE (R134, R135). -/
  | save (tag : Byte)
  /-- RESTORE (R138). -/
  | restore (tag : Byte)
  /-- ARCHIVE_INFO (R144). -/
  | archiveInfo (tag : Byte)
  /-- SET_STARTUP (R131). -/
  | setStartup (tag : Byte) (list mode contrast : Byte) (mask : Half) (attn : Byte)
  /-- BYTE_RECEIVED (R156, R158): a character, with the level of its stop bit. -/
  | byteReceived (byte : Byte) (stopBit : Bool)
  /-- GAP_TIMER_EXPIRY (R159). -/
  | gapTimerExpiry
  /-- REQUEST_HANDOFF (R164). -/
  | requestHandoff
  /-- REPLY_TRANSMITTED (R168). -/
  | replyTransmitted
  /-- WARM_START_BY_RESTART (R171, R172). -/
  | warmStartByRestart
  /-- POWER_ON (R154, R156): the levels of the BAUD strap and of RESETN at power-on. -/
  | powerOn (baudHigh resetnHigh : Bool)
  /-- RESETN_FALL (R172). -/
  | resetnFall
  /-- RESETN_RELEASE (R108, R172). -/
  | resetnRelease
  /-- STARTUP_COMPLETE (R142, R154). -/
  | startupComplete
  /-- SYNC_FALLING_EDGE (R103). -/
  | syncFallingEdge
  /-- CRYSTAL_STOPPED (R92, R106). -/
  | crystalStopped
  /-- CRYSTAL_RESUMED (R92). -/
  | crystalResumed
  /-- SECOND_TICK (R94). -/
  | secondTick
  /-- HALF_SECOND_TICK (R57, R94): whether the prescaler reached a whole second or the middle of one. -/
  | halfSecondTick (whole : Bool)
  /-- CALENDAR_SECOND_COUNT (R97). -/
  | calendarSecondCount
  /-- MINUTE_START (R119). -/
  | minuteStart
  /-- SCHEDULE_SHOW (R79): the hand-off of a SHOW action. -/
  | scheduleShow (slot page priority : Byte) (duration : Half)
  /-- SCHEDULE_SELECT (R65): the hand-off of a SELECT action. -/
  | scheduleSelect (list : Byte)
  /-- SCHEDULE_CLEAR_BELOW (R83): the hand-off of a CLEAR_BELOW action. -/
  | scheduleClearBelow (priority : Byte)
  /-- SCHEDULE_DISPLAY (R47): the hand-off of a DISPLAY action. -/
  | scheduleDisplay (mode : Byte)
  /-- DWELL_COUNT (R66). -/
  | dwellCount
  /-- ROTATION_ADVANCE (R67). -/
  | rotationAdvance
  /-- OVERRIDE_COUNTDOWN (R80). -/
  | overrideCountdown
  /-- OVERRIDE_EXPIRY (R80). -/
  | overrideExpiry
  /-- DRAFT_IDLE_COUNT (R9). -/
  | draftIdleCount
  /-- DRAFT_EXPIRY (R9). -/
  | draftExpiry
  /-- HOLD_TIMER_COUNT (R104). -/
  | holdTimerCount
  /-- HOLD_EXPIRY (R104). -/
  | holdExpiry
  /-- FRAME_BOUNDARY (R14, R33, R49 to R55). -/
  | frameBoundary
  /-- SAVE_END (R137): whether the read-back verify passed. -/
  | saveEnd (verified : Bool)
  /-- RESTORE_COMPLETE (R140). -/
  | restoreComplete
  /-- BANK_DAMAGED (R133): the bank, and the sequence number that stands in it afterwards (R142). -/
  | bankDamaged (bank : BankId) (sequence : Quad)
deriving DecidableEq, Repr

end Sys2Proof
end

