-- ==== Sys2Proof/WellFormed.lean ====
section
/-! DEFINITION. Well-formed commands: requests whose tag and payload length the link can accept (R161, R174's table of codes)
and hand-offs whose arguments lie in the ranges R111 gives. A command that is not well formed still has a meaning: the link
refuses such a request, and no firing matches such a hand-off. -/

namespace Sys2Proof

/-- A tag the link accepts: 0–15 (R161 check 1). -/
def tagOk (tag : Byte) : Bool := tag.toNat ≤ 15

/-- A page id: 1–254 (R1). -/
def pageIdOk (page : Byte) : Bool := 1 ≤ page.toNat && page.toNat ≤ 254

/-- An override priority: 1–7 (R74). -/
def priorityOk (priority : Byte) : Bool := 1 ≤ priority.toNat && priority.toNat ≤ 7

/-- The well-formedness of a command. -/
def Instr.wellFormed : Instr → Bool
  | .ping t bytes => tagOk t && bytes.length ≤ 63
  | .identify t => tagOk t
  | .status t => tagOk t
  | .restart t => tagOk t
  | .fetchReports t _ => tagOk t
  | .setReportMask t _ => tagOk t
  | .setAttn t _ => tagOk t
  | .setTime t _ _ _ _ _ _ _ => tagOk t
  | .releaseTime t => tagOk t
  | .getTime t => tagOk t
  | .setSync t _ => tagOk t
  | .setGlass t _ _ => tagOk t
  | .setDisplay t _ _ _ _ => tagOk t
  | .getDisplay t => tagOk t
  | .setCell t _ refs => tagOk t && refs.length == 8
  | .clearCell t _ => tagOk t
  | .getCell t _ => tagOk t
  | .setValue t _ _ => tagOk t
  | .addValue t _ _ => tagOk t
  | .getValue t _ => tagOk t
  | .openDraft t _ _ => tagOk t
  | .writeDots t _ _ bytes => tagOk t && 1 ≤ bytes.length && bytes.length ≤ 48
  | .writeBlink t _ _ bytes => tagOk t && bytes.length ≤ 48
  | .bindField t _ _ _ _ _ _ _ => tagOk t
  | .unbindField t _ _ => tagOk t
  | .commit t _ => tagOk t
  | .abandon t _ => tagOk t
  | .deletePage t _ => tagOk t
  | .listPages t => tagOk t
  | .readPage t _ _ _ => tagOk t
  | .setList t _ _ steps => tagOk t && steps.length ≤ 16
  | .getList t _ => tagOk t
  | .selectList t _ => tagOk t
  | .pauseRotation t => tagOk t
  | .resumeRotation t => tagOk t
  | .showNow t _ _ _ => tagOk t
  | .clearOverride t _ => tagOk t
  | .clearBelow t _ => tagOk t
  | .listOverrides t => tagOk t
  | .setEntry t _ _ _ _ _ _ _ _ _ _ _ => tagOk t
  | .clearEntry t _ => tagOk t
  | .armEntry t _ => tagOk t
  | .disarmEntry t _ => tagOk t
  | .getEntry t _ => tagOk t
  | .save t => tagOk t
  | .restore t => tagOk t
  | .archiveInfo t => tagOk t
  | .setStartup t _ _ _ _ _ => tagOk t
  | .byteReceived _ _ => true
  | .gapTimerExpiry => true
  | .requestHandoff => true
  | .replyTransmitted => true
  | .warmStartByRestart => true
  | .powerOn _ _ => true
  | .resetnFall => true
  | .resetnRelease => true
  | .startupComplete => true
  | .syncFallingEdge => true
  | .crystalStopped => true
  | .crystalResumed => true
  | .secondTick => true
  | .halfSecondTick _ => true
  | .calendarSecondCount => true
  | .minuteStart => true
  | .scheduleShow slot page priority _ => slot.toNat ≤ 31 && pageIdOk page && priorityOk priority
  | .scheduleSelect list => list.toNat ≤ 3
  | .scheduleClearBelow priority => priorityOk priority
  | .scheduleDisplay mode => mode.toNat ≤ 3
  | .dwellCount => true
  | .rotationAdvance => true
  | .overrideCountdown => true
  | .overrideExpiry => true
  | .draftIdleCount => true
  | .draftExpiry => true
  | .holdTimerCount => true
  | .holdExpiry => true
  | .frameBoundary => true
  | .saveEnd _ => true
  | .restoreComplete => true
  | .bankDamaged _ _ => true

end Sys2Proof
end

