-- ==== Sys2Proof/Decode.lean ====
section
/-! DEFINITION. Requests and commands: the request code and payload of each request command (11.1, 11.2), the owner's reading
of a request (R173), and the request table's codes and payload lengths (R161). The opcode table gives no row any bits, so
`decodeTableWord` reads no command. -/

namespace Sys2Proof

/-- A two-byte field, least significant byte first (R173). -/
def halfBytes (w : Half) : List Byte := [w.extractLsb' 0 8, w.extractLsb' 8 8]

/-- A four-byte field, least significant byte first (R173). -/
def quadBytes (w : Quad) : List Byte :=
  [w.extractLsb' 0 8, w.extractLsb' 8 8, w.extractLsb' 16 8, w.extractLsb' 24 8]

/-- The two-byte field whose bytes arrive as `b0`, `b1` (R173). -/
def halfOf (b0 b1 : Byte) : Half := b1 ++ b0

/-- The four-byte field whose bytes arrive as `b0` to `b3` (R173). -/
def quadOf (b0 b1 b2 b3 : Byte) : Quad := b3 ++ b2 ++ b1 ++ b0

/-- A list of byte pairs in wire order: references (common, segment) and steps (page id, dwell). -/
def pairBytes : List (Byte × Byte) → List Byte
  | [] => []
  | (x, y) :: rest => x :: y :: pairBytes rest

/-- The pairs of an even number of bytes. -/
def pairsOf : List Byte → Option (List (Byte × Byte))
  | [] => some []
  | [_] => none
  | x :: y :: rest => (pairsOf rest).map ((x, y) :: ·)

/-- The payload lengths the link allows for a request: `lo` to `hi`, and even ones alone where `even` holds (R161). -/
structure LengthRule where
  lo : Nat
  hi : Nat
  even : Bool := false
deriving DecidableEq, Repr

/-- Whether the rule allows `n` payload bytes. -/
def LengthRule.allows (l : LengthRule) (n : Nat) : Bool := l.lo ≤ n && n ≤ l.hi && (!l.even || n % 2 == 0)

/-- The table of request codes of 11.1; `none` for a code that names no request (R161 check 4). -/
def lengthRule (code : Byte) : Option LengthRule :=
  match code.toNat with
  | 0x01 => some ⟨0, 63, false⟩
  | 0x02 => some ⟨0, 0, false⟩
  | 0x03 => some ⟨0, 0, false⟩
  | 0x04 => some ⟨0, 0, false⟩
  | 0x08 => some ⟨1, 1, false⟩
  | 0x09 => some ⟨2, 2, false⟩
  | 0x0A => some ⟨1, 1, false⟩
  | 0x10 => some ⟨7, 7, false⟩
  | 0x11 => some ⟨0, 0, false⟩
  | 0x12 => some ⟨0, 0, false⟩
  | 0x13 => some ⟨1, 1, false⟩
  | 0x18 => some ⟨2, 2, false⟩
  | 0x19 => some ⟨4, 4, false⟩
  | 0x1A => some ⟨0, 0, false⟩
  | 0x20 => some ⟨17, 17, false⟩
  | 0x21 => some ⟨1, 1, false⟩
  | 0x22 => some ⟨1, 1, false⟩
  | 0x24 => some ⟨5, 5, false⟩
  | 0x25 => some ⟨5, 5, false⟩
  | 0x26 => some ⟨1, 1, false⟩
  | 0x30 => some ⟨2, 2, false⟩
  | 0x31 => some ⟨3, 50, false⟩
  | 0x32 => some ⟨2, 50, false⟩
  | 0x33 => some ⟨7, 7, false⟩
  | 0x34 => some ⟨2, 2, false⟩
  | 0x35 => some ⟨1, 1, false⟩
  | 0x36 => some ⟨1, 1, false⟩
  | 0x37 => some ⟨1, 1, false⟩
  | 0x38 => some ⟨0, 0, false⟩
  | 0x39 => some ⟨3, 3, false⟩
  | 0x40 => some ⟨2, 34, true⟩
  | 0x41 => some ⟨1, 1, false⟩
  | 0x42 => some ⟨1, 1, false⟩
  | 0x43 => some ⟨0, 0, false⟩
  | 0x44 => some ⟨0, 0, false⟩
  | 0x48 => some ⟨4, 4, false⟩
  | 0x49 => some ⟨1, 1, false⟩
  | 0x4A => some ⟨1, 1, false⟩
  | 0x4B => some ⟨0, 0, false⟩
  | 0x50 => some ⟨12, 12, false⟩
  | 0x51 => some ⟨1, 1, false⟩
  | 0x52 => some ⟨1, 1, false⟩
  | 0x53 => some ⟨1, 1, false⟩
  | 0x54 => some ⟨1, 1, false⟩
  | 0x58 => some ⟨0, 0, false⟩
  | 0x59 => some ⟨0, 0, false⟩
  | 0x5A => some ⟨0, 0, false⟩
  | 0x5B => some ⟨6, 6, false⟩
  | _ => none

/-- The request a request command stands for, with the code of 11.1 and the payload layout of 11.2; `none` for a happening. -/
def Instr.toRequest : Instr → Option Request
  | .ping t bytes => some ⟨t, 0x01, bytes⟩
  | .identify t => some ⟨t, 0x02, []⟩
  | .status t => some ⟨t, 0x03, []⟩
  | .restart t => some ⟨t, 0x04, []⟩
  | .fetchReports t max => some ⟨t, 0x08, [max]⟩
  | .setReportMask t mask => some ⟨t, 0x09, halfBytes mask⟩
  | .setAttn t enable => some ⟨t, 0x0A, [enable]⟩
  | .setTime t year month day hour minute second hold =>
      some ⟨t, 0x10, [year, month, day, hour, minute, second, hold]⟩
  | .releaseTime t => some ⟨t, 0x11, []⟩
  | .getTime t => some ⟨t, 0x12, []⟩
  | .setSync t enable => some ⟨t, 0x13, [enable]⟩
  | .setGlass t duty rate => some ⟨t, 0x18, [duty, rate]⟩
  | .setDisplay t mode invert contrast rowMask => some ⟨t, 0x19, [mode, invert, contrast, rowMask]⟩
  | .getDisplay t => some ⟨t, 0x1A, []⟩
  | .setCell t cell refs => some ⟨t, 0x20, cell :: pairBytes refs⟩
  | .clearCell t cell => some ⟨t, 0x21, [cell]⟩
  | .getCell t cell => some ⟨t, 0x22, [cell]⟩
  | .setValue t register value => some ⟨t, 0x24, register :: quadBytes value⟩
  | .addValue t register delta => some ⟨t, 0x25, register :: quadBytes delta⟩
  | .getValue t register => some ⟨t, 0x26, [register]⟩
  | .openDraft t page base => some ⟨t, 0x30, [page, base]⟩
  | .writeDots t draft offset bytes => some ⟨t, 0x31, draft :: offset :: bytes⟩
  | .writeBlink t draft offset bytes => some ⟨t, 0x32, draft :: offset :: bytes⟩
  | .bindField t draft index source register first count options =>
      some ⟨t, 0x33, [draft, index, source, register, first, count, options]⟩
  | .unbindField t draft index => some ⟨t, 0x34, [draft, index]⟩
  | .commit t draft => some ⟨t, 0x35, [draft]⟩
  | .abandon t draft => some ⟨t, 0x36, [draft]⟩
  | .deletePage t page => some ⟨t, 0x37, [page]⟩
  | .listPages t => some ⟨t, 0x38, []⟩
  | .readPage t page part offset => some ⟨t, 0x39, [page, part, offset]⟩
  | .setList t list wrap steps => some ⟨t, 0x40, list :: wrap :: pairBytes steps⟩
  | .getList t list => some ⟨t, 0x41, [list]⟩
  | .selectList t list => some ⟨t, 0x42, [list]⟩
  | .pauseRotation t => some ⟨t, 0x43, []⟩
  | .resumeRotation t => some ⟨t, 0x44, []⟩
  | .showNow t page priority duration => some ⟨t, 0x48, page :: priority :: halfBytes duration⟩
  | .clearOverride t page => some ⟨t, 0x49, [page]⟩
  | .clearBelow t priority => some ⟨t, 0x4A, [priority]⟩
  | .listOverrides t => some ⟨t, 0x4B, []⟩
  | .setEntry t slot minute hour day weekdays month flags action arg1 arg2 duration =>
      some ⟨t, 0x50, [slot, minute, hour, day, weekdays, month, flags, action, arg1, arg2] ++ halfBytes duration⟩
  | .clearEntry t slot => some ⟨t, 0x51, [slot]⟩
  | .armEntry t slot => some ⟨t, 0x52, [slot]⟩
  | .disarmEntry t slot => some ⟨t, 0x53, [slot]⟩
  | .getEntry t slot => some ⟨t, 0x54, [slot]⟩
  | .save t => some ⟨t, 0x58, []⟩
  | .restore t => some ⟨t, 0x59, []⟩
  | .archiveInfo t => some ⟨t, 0x5A, []⟩
  | .setStartup t list mode contrast mask attn =>
      some ⟨t, 0x5B, [list, mode, contrast] ++ halfBytes mask ++ [attn]⟩
  | _ => none

/-- The command of a request: the owner's reading of code and payload (R173), `none` for a code that names no request or a
payload length the code does not allow (R161 checks 4 and 5). -/
def Request.command (r : Request) : Option Instr :=
  match r.code.toNat, r.payload with
  | 0x01, bytes => if bytes.length ≤ 63 then some (.ping r.tag bytes) else none
  | 0x02, [] => some (.identify r.tag)
  | 0x03, [] => some (.status r.tag)
  | 0x04, [] => some (.restart r.tag)
  | 0x08, [max] => some (.fetchReports r.tag max)
  | 0x09, [m0, m1] => some (.setReportMask r.tag (halfOf m0 m1))
  | 0x0A, [enable] => some (.setAttn r.tag enable)
  | 0x10, [year, month, day, hour, minute, second, hold] =>
      some (.setTime r.tag year month day hour minute second hold)
  | 0x11, [] => some (.releaseTime r.tag)
  | 0x12, [] => some (.getTime r.tag)
  | 0x13, [enable] => some (.setSync r.tag enable)
  | 0x18, [duty, rate] => some (.setGlass r.tag duty rate)
  | 0x19, [mode, invert, contrast, rowMask] => some (.setDisplay r.tag mode invert contrast rowMask)
  | 0x1A, [] => some (.getDisplay r.tag)
  | 0x20, cell :: rest =>
      if rest.length = 16 then (pairsOf rest).map (.setCell r.tag cell ·) else none
  | 0x21, [cell] => some (.clearCell r.tag cell)
  | 0x22, [cell] => some (.getCell r.tag cell)
  | 0x24, [register, v0, v1, v2, v3] => some (.setValue r.tag register (quadOf v0 v1 v2 v3))
  | 0x25, [register, v0, v1, v2, v3] => some (.addValue r.tag register (quadOf v0 v1 v2 v3))
  | 0x26, [register] => some (.getValue r.tag register)
  | 0x30, [page, base] => some (.openDraft r.tag page base)
  | 0x31, draft :: offset :: bytes =>
      if 1 ≤ bytes.length ∧ bytes.length ≤ 48 then some (.writeDots r.tag draft offset bytes) else none
  | 0x32, draft :: offset :: bytes =>
      if bytes.length ≤ 48 then some (.writeBlink r.tag draft offset bytes) else none
  | 0x33, [draft, index, source, register, first, count, options] =>
      some (.bindField r.tag draft index source register first count options)
  | 0x34, [draft, index] => some (.unbindField r.tag draft index)
  | 0x35, [draft] => some (.commit r.tag draft)
  | 0x36, [draft] => some (.abandon r.tag draft)
  | 0x37, [page] => some (.deletePage r.tag page)
  | 0x38, [] => some (.listPages r.tag)
  | 0x39, [page, part, offset] => some (.readPage r.tag page part offset)
  | 0x40, list :: wrap :: rest =>
      if rest.length ≤ 32 then (pairsOf rest).map (.setList r.tag list wrap ·) else none
  | 0x41, [list] => some (.getList r.tag list)
  | 0x42, [list] => some (.selectList r.tag list)
  | 0x43, [] => some (.pauseRotation r.tag)
  | 0x44, [] => some (.resumeRotation r.tag)
  | 0x48, [page, priority, d0, d1] => some (.showNow r.tag page priority (halfOf d0 d1))
  | 0x49, [page] => some (.clearOverride r.tag page)
  | 0x4A, [priority] => some (.clearBelow r.tag priority)
  | 0x4B, [] => some (.listOverrides r.tag)
  | 0x50, [slot, minute, hour, day, weekdays, month, flags, action, arg1, arg2, d0, d1] =>
      some (.setEntry r.tag slot minute hour day weekdays month flags action arg1 arg2 (halfOf d0 d1))
  | 0x51, [slot] => some (.clearEntry r.tag slot)
  | 0x52, [slot] => some (.armEntry r.tag slot)
  | 0x53, [slot] => some (.disarmEntry r.tag slot)
  | 0x54, [slot] => some (.getEntry r.tag slot)
  | 0x58, [] => some (.save r.tag)
  | 0x59, [] => some (.restore r.tag)
  | 0x5A, [] => some (.archiveInfo r.tag)
  | 0x5B, [list, mode, contrast, m0, m1, attn] =>
      some (.setStartup r.tag list mode contrast (halfOf m0 m1) attn)
  | _, _ => none

/-- The check byte that makes the sum of `bytes` and itself 0 modulo 256 (R157). -/
def checkByte (bytes : List Byte) : Byte := -(bytes.foldl (· + ·) 0)

/-- The part of a frame the sum is taken over, from LEN to the last payload byte (R157, R173). -/
def frameBody (tag code : Byte) (payload : List Byte) : List Byte :=
  BitVec.ofNat 8 (payload.length + 2) :: tag :: code :: payload

/-- The bytes of a request's frame on the line (R157, R173). -/
def Request.frameBytes (r : Request) : List Byte :=
  let body := frameBody r.tag r.code r.payload
  Config.requestSof :: (body ++ [checkByte body])

/-- The command a word of the opcode table spells: the table gives no row any bits, so none does. -/
def decodeTableWord (_nbits _w : Nat) : Option Instr := none

end Sys2Proof
end

