-- ==== Sys2Proof/Machine/State.lean ====
section
/-! DEFINITION. The state of the part, block by block, as plain data; the state after a completed cold start; named updates. -/

namespace Sys2Proof.Machine

open Sys2Proof

/-! ## Outcomes other than a next state -/

/-- Why a command stops the part with a fault. The manual describes none: every condition it names is a refusal reply or a
report, both of which are next states. So there is no constructor, and no command can fault. -/
inductive Fault where
deriving DecidableEq, Repr

/-- Why the model gives a command no meaning. -/
inductive Refusal where
  /-- Raised by an arm of `exec` for a command that has no meaning yet. Safe: nothing can be proved of its effect. -/
  | notModelled (mnemonic : String)
deriving DecidableEq, Repr

/-! ## The message link (chapter 10) -/

/-- The link speeds the BAUD strap selects (R156). -/
inductive Speed where
  | baud19200
  | baud115200
deriving DecidableEq, Repr

/-- The result codes of a reply (R174's table). -/
inductive Result where
  | ok
  | busy
  | dupTag
  | badCode
  | badLength
  | badField
  | noSuch
  | noRoom
  | inUse
  | wrongState
  | archiveBusy
  | failed
deriving DecidableEq, Repr

/-- A reply in the queue (R157, R168). `restarts` marks the reply of a RESTART (R171). -/
structure Reply where
  tag : Byte
  result : Result
  payload : List Byte
  restarts : Bool := false
deriving DecidableEq, Repr

/-- The receiver's state with the bytes of the frame in progress (R158). The gap timer runs in every state but `hunt` (R159). -/
inductive Receiver where
  /-- HUNT. -/
  | hunt
  /-- LENGTH: the start byte has been taken. -/
  | length
  /-- BODY: LEN, the body bytes taken so far, and the count of those still due. -/
  | body (len : Byte) (taken : List Byte) (due : Nat)
  /-- CHECK: LEN and every body byte have been taken. -/
  | check (len : Byte) (taken : List Byte)
deriving DecidableEq, Repr

/-- The message link's state (R156 to R172). -/
structure Link where
  speed : Speed
  receiver : Receiver
  /-- Tags of the accepted requests whose replies have not joined the reply queue, in order of acceptance (R162). -/
  unanswered : List Byte
  /-- Accepted requests no owner has been handed yet, oldest first (R162). -/
  inbox : List Request
  /-- The request handed to its owner and not yet taken (R164). -/
  handed : Option Request
  /-- The reply queue, front first (R168). -/
  replies : List Reply
  /-- RESTART's reply has been transmitted and the warm start it causes has not begun (R171). -/
  restartDue : Bool
  /-- The model's own: the frame most recently transmitted whole on TXD (R157, R168), empty at a start. -/
  lastFrame : List Byte
deriving DecidableEq, Repr

/-! ## The report queue (chapter 9) -/

/-- The fourteen report kinds (9.5). -/
inductive Kind where
  | started
  | linkFault
  | draftEnded
  | pageMissing
  | fieldOverflow
  | entryFired
  | overrideEnded
  | overrideRefused
  | listWrapped
  | listStarved
  | holdExpired
  | clockLost
  | calendarWrap
  | selection
deriving DecidableEq, Repr

/-- The stamp of a report record (R145). -/
structure Stamp where
  hour : Nat
  minute : Nat
deriving DecidableEq, Repr

/-- A report record (R145). -/
structure Report where
  kind : Kind
  subject : Nat
  detail : Nat
  count : Nat
  stamp : Option Stamp
deriving DecidableEq, Repr

/-- The report queue's state (R146 to R155). -/
structure ReportQueue where
  /-- The queue, front first (R146). -/
  records : List Report
  /-- The LOST flag (R148). -/
  lost : Bool
  /-- The live report mask: bit `k` enables kind `k` (R151). -/
  mask : Half
  /-- The ATTN enable (R152). -/
  attnEnable : Bool
  /-- The ATTN pin: pulled low (R153). -/
  attnLow : Bool
  /-- Reports held aside during a start, in the order first offered (R155). -/
  aside : List Report
deriving DecidableEq, Repr

/-! ## Cells, fields and pages (chapters 1 and 2) -/

/-- A dot of the glass: (common, segment) (R25). -/
structure DotRef where
  common : Fin 8
  segment : Fin 48
deriving DecidableEq, Repr

/-- A defined cell: its eight references in the order a, b, c, d, e, f, g, point, each a dot or absent (R25). -/
abbrev Cell := Vector (Option DotRef) 8

/-- What a field shows (R30). -/
inductive Source where
  | clockHM
  | clockMS
  | dateDM
  | dateY
  | value
  | remain
deriving DecidableEq, Repr

/-- A field binding (R30). -/
structure Binding where
  source : Source
  register : Nat
  first : Nat
  count : Nat
  suppress : Bool
  point : Nat
deriving DecidableEq, Repr

/-- The four indices of a field list, each bound or unused (R1). -/
abbrev FieldList := Vector (Option Binding) 4

/-- The field list with every index unused. -/
def FieldList.unused : FieldList := Vector.replicate 4 none

/-- A page record (R1). An overflow latch of an unused index is clear. -/
structure Page where
  id : Nat
  version : Nat
  image : Dots
  mask : Option Dots
  fields : FieldList
  latches : Vector Bool 4
deriving DecidableEq, Repr

/-- The content of an open draft (R3). -/
structure DraftBody where
  target : Nat
  image : Dots
  mask : Option Dots
  fields : FieldList
deriving DecidableEq, Repr

/-- A draft slot (R3): FREE, DRAFT with its idle count, or COMMITTING. A FREE slot has no content. -/
inductive Draft where
  | free
  | editing (body : DraftBody) (idle : Nat)
  | committing (body : DraftBody)
deriving DecidableEq, Repr

/-- An entry of the pending-commit list (R13), with the tag of the deferred request (R165). -/
structure PendingCommit where
  draft : Fin 2
  isNew : Bool
  tag : Byte
deriving DecidableEq, Repr

/-- The page store's state (R1 to R24). `pages` stands in ascending id, since records have no order of their own (R2). -/
structure PageStore where
  pages : List Page
  drafts : Vector Draft 2
  commits : List PendingCommit
deriving DecidableEq, Repr

/-- The cell and field unit's state (R25, R38); the overflow latches stand in the page records (R37). -/
structure CellUnit where
  table : Vector (Option Cell) 16
  values : Vector Int 8
deriving DecidableEq, Repr

/-! ## The frame engine (chapter 3) -/

/-- The frame rates of the glass settings: 32, 64 and 128 frames per second (R42). -/
inductive FrameRate where
  | f32
  | f64
  | f128
deriving DecidableEq, Repr

/-- The glass settings (R42). -/
structure Glass where
  duty : Nat
  rate : FrameRate
deriving DecidableEq, Repr

/-- The display modes (R45, R55). -/
inductive Mode where
  | off
  | shown
  | allDark
  | allClear
deriving DecidableEq, Repr

/-- The display settings (R45). -/
structure Display where
  mode : Mode
  invert : Bool
  contrast : Nat
  rowMask : Byte
deriving DecidableEq, Repr

/-- The sources of a selection (R88). -/
inductive SelectionSource where
  | blank
  | rotation
  | override
deriving DecidableEq, Repr

/-- The identity of an override record: its origin with its entry slot or its page id (R74). -/
inductive Identity where
  | schedule (slot : Nat)
  | host (page : Nat)
deriving DecidableEq, Repr

/-- A selection: page or none, source, and the selected record's identity for source OVERRIDE (R88). -/
structure Selection where
  page : Option Nat
  source : SelectionSource
  record : Option Identity
deriving DecidableEq, Repr

/-- The selection with no page (R88). -/
def Selection.blank : Selection := ⟨none, .blank, none⟩

/-- What the common and segment lines do for the frame being driven: all at ground, or scanned over the commons of a duty at
a contrast with a composed image (R41, R55, R56). -/
inductive Drive where
  | ground
  | scanned (duty contrast : Nat) (image : Dots)
deriving DecidableEq, Repr

/-- The frame engine's state (R41 to R58). -/
structure FrameEngine where
  glass : Glass
  display : Display
  /-- The latched frame (R50). -/
  latched : Selection
  /-- The blink phase: on (R57). -/
  blinkOn : Bool
  /-- The frame being driven (R50). -/
  drive : Drive
  /-- The frame rate taken at the last boundary, which sets the cadence (R49). -/
  rate : FrameRate
  /-- The prescaler count at which the next boundary falls (R49, R94). -/
  nextBoundary : Nat
deriving DecidableEq, Repr

/-! ## Rotation and override stack (chapters 4 and 5) -/

/-- A step of a rotation list (R59). -/
structure Step where
  page : Nat
  dwell : Nat
deriving DecidableEq, Repr

/-- A rotation list with its report-on-wrap flag (R59). -/
structure RotationList where
  steps : List Step
  wrapFlag : Bool
deriving DecidableEq, Repr

/-- The cursor and the remaining dwell (R60). -/
structure Seat where
  cursor : Nat
  remaining : Nat
deriving DecidableEq, Repr

/-- The rotation's state (R59, R60). `seat` is none while EMPTY or STARVED. -/
structure Rotation where
  lists : Vector RotationList 4
  active : Fin 4
  seat : Option Seat
  paused : Bool
deriving DecidableEq, Repr

/-- The rotation's four states (R60). -/
inductive RotationState where
  | empty
  | starved
  | running
  | paused
deriving DecidableEq, Repr

/-- An override record (R74): `remaining` is none for an untimed record. -/
structure Override where
  identity : Identity
  page : Nat
  priority : Nat
  remaining : Option Nat
deriving DecidableEq, Repr

/-- The override stack's state: its records, oldest first (R75), and the selection (R88). -/
structure OverrideStack where
  records : List Override
  selection : Selection
deriving DecidableEq, Repr

/-! ## Calendar and schedule (chapters 6 and 7) -/

/-- The crystal status (R92). -/
inductive Crystal where
  | stopped
  | running
deriving DecidableEq, Repr

/-- The calendar's fields (R96); weekday 0 is Monday. -/
structure CalendarFields where
  year : Nat
  month : Nat
  day : Nat
  hour : Nat
  minute : Nat
  second : Nat
  weekday : Nat
deriving DecidableEq, Repr

/-- The calendar's states (R96). The hold timer is kept in HELD alone (R104). -/
inductive CalendarState where
  | invalid
  | held (timer : Nat)
  | running
deriving DecidableEq, Repr

/-- The calendar and ticks block's state (R92 to R108). -/
structure Calendar where
  crystal : Crystal
  fields : CalendarFields
  state : CalendarState
  /-- The sync enable (R103). -/
  sync : Bool
  /-- The prescaler's count at its most recent happening (R94, R95; log entry 6). -/
  prescaler : Nat
deriving DecidableEq, Repr

/-- The day part of a pattern (R110). -/
inductive DayPart where
  | any
  | dayOfMonth (day : Nat)
  | weekdays (set : BitVec 7)
deriving DecidableEq, Repr

/-- A pattern: none is an absent part (R110). -/
structure Pattern where
  minute : Option Nat
  hour : Option Nat
  day : DayPart
  month : Option Nat
deriving DecidableEq, Repr

/-- The action of an entry (R111). A duration of 0 is untimed. -/
inductive Action where
  | showPage (page priority duration : Nat)
  | selectList (list : Fin 4)
  | clearBelow (priority : Nat)
  | display (mode : Mode)
deriving DecidableEq, Repr

/-- A schedule entry (R110, R111). -/
structure Entry where
  pattern : Pattern
  once : Bool
  report : Bool
  action : Action
deriving DecidableEq, Repr

/-- The states of a slot that holds an entry (R109). -/
inductive Arming where
  | armed
  | disarmed
  | spent
deriving DecidableEq, Repr

/-- A schedule slot (R109). -/
inductive Slot where
  | free
  | holds (arming : Arming) (entry : Entry)
deriving DecidableEq, Repr

/-- The values a minute start carries (R97). -/
structure MinuteStart where
  minute : Nat
  hour : Nat
  day : Nat
  weekday : Nat
  month : Nat
deriving DecidableEq, Repr

/-- A firing of the walk: the slot, its entry as read when the minute start was taken, and the minute start (R119). -/
structure Firing where
  slot : Nat
  entry : Entry
  start : MinuteStart
deriving DecidableEq, Repr

/-- The schedule's state (R109): the slots, the minute starts handed over and not yet taken, and the firings of the minute
start taken that are still to be completed. -/
structure Schedule where
  slots : Vector Slot 32
  minuteStarts : List MinuteStart
  walk : List Firing
deriving DecidableEq, Repr

/-! ## Archive (chapter 8) -/

/-- The startup record (R130). -/
structure StartupRecord where
  list : Fin 4
  mode : Mode
  contrast : Nat
  mask : Half
  attn : Bool
deriving DecidableEq, Repr

/-- A copy of the six stored collections (R129); its page records carry clear overflow latches. -/
structure Collections where
  glass : Glass
  cells : Vector (Option Cell) 16
  pages : List Page
  lists : Vector RotationList 4
  slots : Vector Slot 32
  startup : StartupRecord
deriving DecidableEq, Repr

/-- What a bank's non-volatile memory holds (R133): no validity marker, or a marker with a sequence number, the collections,
and whether the image agrees with its check value. -/
inductive BankContent where
  | unmarked
  | marked (sequence : Nat) (image : Collections) (agrees : Bool)
deriving DecidableEq, Repr

/-- The archive operation in progress (R134 to R140), with the tag of the deferred request (R165). -/
inductive ArchiveOp where
  | none
  | save (target : BankId) (sequence : Nat) (snapshot : Collections) (tag : Byte)
  | restore (bank : BankId) (tag : Byte)
deriving DecidableEq, Repr

/-- The archive's state: both banks' contents, their live validity records (the sequence number when valid), the startup
record, the dirty flag and the operation in progress (R130 to R144). -/
structure Archive where
  bankA : BankContent
  bankB : BankContent
  recordA : Option Nat
  recordB : Option Nat
  startup : StartupRecord
  dirty : Bool
  op : ArchiveOp
deriving DecidableEq, Repr

/-! ## The part -/

/-- The causes of a start (R154). -/
inductive Cause where
  | powerOn
  | resetn
  | restart
deriving DecidableEq, Repr

/-- Whether the part listens, is in its start-up interval, or is in a start with RESETN held low (R154, R172). -/
inductive Phase where
  | listening
  | starting (cause : Cause)
  | resetHeld (cause : Cause)
deriving DecidableEq, Repr

/-- Second ticks the prescaler has handed to each recipient and the recipient has not yet taken (R94). -/
structure Owed where
  calendar : Nat
  rotation : Nat
  stack : Nat
  store : Nat
deriving DecidableEq, Repr

/-- The whole part, and the model's queue of waiting commands. -/
structure State where
  phase : Phase
  store : PageStore
  cells : CellUnit
  frame : FrameEngine
  rotation : Rotation
  stack : OverrideStack
  calendar : Calendar
  schedule : Schedule
  archive : Archive
  reports : ReportQueue
  link : Link
  owed : Owed
  /-- The commands that are waiting, first in, first out. -/
  pending : List Instr
deriving DecidableEq, Repr

/-! ## Named updates, one per block -/

def State.setPhase (s : State) (x : Phase) : State := { s with phase := x }
def State.setStore (s : State) (x : PageStore) : State := { s with store := x }
def State.setCells (s : State) (x : CellUnit) : State := { s with cells := x }
def State.setFrame (s : State) (x : FrameEngine) : State := { s with frame := x }
def State.setRotation (s : State) (x : Rotation) : State := { s with rotation := x }
def State.setStack (s : State) (x : OverrideStack) : State := { s with stack := x }
def State.setCalendar (s : State) (x : Calendar) : State := { s with calendar := x }
def State.setSchedule (s : State) (x : Schedule) : State := { s with schedule := x }
def State.setArchive (s : State) (x : Archive) : State := { s with archive := x }
def State.setReports (s : State) (x : ReportQueue) : State := { s with reports := x }
def State.setLink (s : State) (x : Link) : State := { s with link := x }
def State.setOwed (s : State) (x : Owed) : State := { s with owed := x }
def State.setPending (s : State) (x : List Instr) : State := { s with pending := x }

/-! ## Factory values and reset -/

/-- The factory glass settings: duty 8, 64 frames per second (R42). -/
def Glass.factory : Glass := ⟨8, .f64⟩

/-- The factory startup record (R130): list 0, OFF, contrast 8, positions 1–13 of the mask (R151), ATTN on. DESIGN CHOICE
(log entry 8): the positions 0 and 15, which name no kind, are clear. -/
def StartupRecord.factory : StartupRecord := ⟨0, .off, 8, 0x3FFE, true⟩

/-- The stored collections of a part with no valid bank (R142 step 3). -/
def Collections.factory : Collections where
  glass := Glass.factory
  cells := Vector.replicate 16 none
  pages := []
  lists := Vector.replicate 4 ⟨[], false⟩
  slots := Vector.replicate 32 .free
  startup := StartupRecord.factory

/-- The calendar fields after a cold start (R108). -/
def CalendarFields.cold : CalendarFields := ⟨2000, 1, 1, 0, 0, 0, 5⟩

/-- The part right after reset: a cold start has run to its end with RESETN high, the BAUD strap low and two banks without
a marker, and every field stands as the manual's tables "After a cold start" give it (log entries 1, 2 and 4). -/
def State.reset : State where
  phase := .listening
  store := { pages := [], drafts := Vector.replicate 2 .free, commits := [] }
  cells := { table := Vector.replicate 16 none, values := Vector.replicate 8 0 }
  frame :=
    { glass := Glass.factory
      display := { mode := .off, invert := false, contrast := 8, rowMask := 0xFF }
      latched := Selection.blank
      blinkOn := true
      drive := .ground
      rate := .f64
      nextBoundary := 512 }
  rotation := { lists := Vector.replicate 4 ⟨[], false⟩, active := 0, seat := none, paused := false }
  stack := { records := [], selection := Selection.blank }
  calendar :=
    { crystal := .stopped, fields := CalendarFields.cold, state := .invalid, sync := false, prescaler := 0 }
  schedule := { slots := Vector.replicate 32 .free, minuteStarts := [], walk := [] }
  archive :=
    { bankA := .unmarked, bankB := .unmarked, recordA := none, recordB := none
      startup := StartupRecord.factory, dirty := true, op := .none }
  reports :=
    { records := [⟨.started, 1, 2, 1, none⟩], lost := false, mask := 0x3FFE, attnEnable := true, attnLow := true
      aside := [] }
  link :=
    { speed := .baud19200, receiver := .hunt, unanswered := [], inbox := [], handed := none, replies := []
      restartDue := false, lastFrame := [] }
  owed := { calendar := 0, rotation := 0, stack := 0, store := 0 }
  pending := []

end Sys2Proof.Machine
end

