-- ==== Sys2Proof/Machine/Operands.lean ====
section
/-! DEFINITION. Operand forms: how an owner reads the bytes of a request's payload (R173, R176, 11.2), and the codes and byte
layouts of the replies (11.1, 11.3). -/

namespace Sys2Proof.Machine

open Sys2Proof

/-! ## Reading payload fields -/

/-- A one-byte field that is off or on, or one of two named choices: 0 or 1 (R173). -/
def readFlag (b : Byte) : Option Bool :=
  if b = 0 then some false else if b = 1 then some true else none

/-- A page id, 1–254 (R1). -/
def readPageId (b : Byte) : Option Nat :=
  if 1 ≤ b.toNat ∧ b.toNat ≤ 254 then some b.toNat else none

/-- A number below `bound`, as an index. -/
def readIndex (bound : Nat) (b : Byte) : Option (Fin bound) :=
  if h : b.toNat < bound then some ⟨b.toNat, h⟩ else none

/-- A priority, 1–7 (R74). -/
def readPriority (b : Byte) : Option Nat :=
  if 1 ≤ b.toNat ∧ b.toNat ≤ 7 then some b.toNat else none

/-- A display mode, 0–3 (R45). -/
def readMode (b : Byte) : Option Mode :=
  match b.toNat with
  | 0 => some .off
  | 1 => some .shown
  | 2 => some .allDark
  | 3 => some .allClear
  | _ => none

/-- A frame rate code, 0–2 (R42). -/
def readRate (b : Byte) : Option FrameRate :=
  match b.toNat with
  | 0 => some .f32
  | 1 => some .f64
  | 2 => some .f128
  | _ => none

/-- A field source, 0–5 (11.2, BIND_FIELD). -/
def readSource (b : Byte) : Option Source :=
  match b.toNat with
  | 0 => some .clockHM
  | 1 => some .clockMS
  | 2 => some .dateDM
  | 3 => some .dateY
  | 4 => some .value
  | 5 => some .remain
  | _ => none

/-- A cell reference: both bytes 0xFF for absent, otherwise a dot of the glass; `none` where it is neither (R26, 11.2). -/
def readRef (p : Byte × Byte) : Option (Option DotRef) :=
  if p.1 = 0xFF ∧ p.2 = 0xFF then some none
  else if h : p.1.toNat < 8 ∧ p.2.toNat < 48 then some (some ⟨⟨p.1.toNat, h.1⟩, ⟨p.2.toNat, h.2⟩⟩)
  else none

/-- The eight references of SET_CELL (11.2); `none` where one names no dot of the glass. -/
def readRefs (refs : List (Byte × Byte)) : Option (List (Option DotRef)) :=
  refs.mapM readRef

/-- A cell from its eight references: at least one of a–g is present (R25); `none` otherwise. -/
def readCell (refs : List (Byte × Byte)) : Option Cell :=
  match readRefs refs with
  | some [a, b, c, d, e, f, g, point] =>
      if [a, b, c, d, e, f, g].any Option.isSome then some #v[a, b, c, d, e, f, g, point] else none
  | _ => none

/-- The binding BIND_FIELD carries, when R31 and R176 accept it. The index is not part of it. -/
def readBinding (source register first count options : Byte) : Option Binding :=
  match readSource source with
  | none => none
  | some src =>
      let point := (options.extractLsb' 0 3).toNat
      if options.extractLsb' 3 4 = 0
          ∧ 1 ≤ count.toNat ∧ count.toNat ≤ 6
          ∧ first.toNat + count.toNat ≤ 16
          ∧ (src ≠ .value → count.toNat = 4)
          ∧ (src = .value → register.toNat ≤ 7)
          ∧ (src ≠ .value → register.toNat = 0)
          ∧ point ≤ count.toNat then
        some ⟨src, register.toNat, first.toNat, count.toNat, options.getLsbD 7, point⟩
      else none

/-- A calendar length of a month: 31, but 30 in April, June, September and November, and 29 or 28 in February (R96). -/
def monthLength (year month : Nat) : Nat :=
  if month = 2 then (if year % 4 = 0 then 29 else 28)
  else if month = 4 ∨ month = 6 ∨ month = 9 ∨ month = 11 then 30
  else 31

/-- The longest length a month ever has (R113). -/
def longestMonth (month : Nat) : Nat := monthLength 2000 month

/-- A pattern part held in one byte: 0xFF for any, otherwise a number from `lo` to `hi`; `none` out of range (11.2). -/
def readPart (lo hi : Nat) (b : Byte) : Option (Option Nat) :=
  if b = 0xFF then some none
  else if lo ≤ b.toNat ∧ b.toNat ≤ hi then some (some b.toNat)
  else none

/-- The day part from the day and weekday-set bytes; `none` where one is out of range or both are given (R112, R176). -/
def readDayPart (day weekdays : Byte) : Option DayPart :=
  match readPart 1 31 day with
  | none => none
  | some d =>
      if weekdays.getLsbD 7 then none
      else
        match d, decide (weekdays = 0) with
        | none, true => some .any
        | some n, true => some (.dayOfMonth n)
        | none, false => some (.weekdays (weekdays.extractLsb' 0 7))
        | some _, false => none

/-- Whether the day can fall in one of the months the pattern allows (R113). -/
def patternCanMatch (p : Pattern) : Bool :=
  match p.day, p.month with
  | .dayOfMonth d, some m => d ≤ longestMonth m
  | _, _ => true

/-- The action of SET_ENTRY: the kind, the arguments it uses in range, and those it does not use zero (R111). -/
def readAction (kind arg1 arg2 : Byte) (duration : Half) : Option Action :=
  match kind.toNat with
  | 1 =>
      match readPageId arg1, readPriority arg2 with
      | some page, some priority => some (.showPage page priority duration.toNat)
      | _, _ => none
  | 2 =>
      if arg2 = 0 ∧ duration = 0 then (readIndex 4 arg1).map Action.selectList else none
  | 3 =>
      if arg2 = 0 ∧ duration = 0 then (readPriority arg1).map Action.clearBelow else none
  | 4 =>
      if arg2 = 0 ∧ duration = 0 then (readMode arg1).map Action.display else none
  | _ => none

/-- The entry SET_ENTRY carries, when R112 (orders 2 to 6), R113 and R176 accept it. -/
def readEntry (minute hour day weekdays month flags action arg1 arg2 : Byte) (duration : Half) : Option Entry :=
  match readPart 0 59 minute, readPart 0 23 hour, readDayPart day weekdays, readPart 1 12 month,
      readAction action arg1 arg2 duration with
  | some mi, some ho, some da, some mo, some act =>
      let pattern : Pattern := ⟨mi, ho, da, mo⟩
      if flags.extractLsb' 2 6 = 0 ∧ patternCanMatch pattern then
        some ⟨pattern, flags.getLsbD 0, flags.getLsbD 1, act⟩
      else none
  | _, _, _, _, _ => none

/-- One step of SET_LIST: page id 1–254 and dwell 1–255 (R59, R63). -/
def readStep (p : Byte × Byte) : Option Step :=
  match readPageId p.1 with
  | some page => if p.2 = 0 then none else some ⟨page, p.2.toNat⟩
  | none => none

/-- The startup record SET_STARTUP carries, when R131 accepts it. -/
def readStartup (list mode contrast : Byte) (mask : Half) (attn : Byte) : Option StartupRecord :=
  match readIndex 4 list, readMode mode, readFlag attn with
  | some l, some m, some a => if contrast.toNat ≤ 15 then some ⟨l, m, contrast.toNat, mask, a⟩ else none
  | _, _, _ => none

/-- The display settings SET_DISPLAY carries, when R46 accepts them. -/
def readDisplay (mode invert contrast rowMask : Byte) : Option Display :=
  match readMode mode, readFlag invert with
  | some m, some i => if contrast.toNat ≤ 15 then some ⟨m, i, contrast.toNat, rowMask⟩ else none
  | _, _ => none

/-- The glass settings SET_GLASS carries, when R43 accepts their ranges. -/
def readGlass (duty rate : Byte) : Option Glass :=
  match readRate rate with
  | some r => if 1 ≤ duty.toNat ∧ duty.toNat ≤ 8 then some ⟨duty.toNat, r⟩ else none
  | none => none

/-- A duration or remaining time of 0 is untimed (R76). -/
def readDuration (d : Nat) : Option Nat := if d = 0 then none else some d

/-! ## Codes of replies and reports -/

/-- A number as one byte of a reply. -/
def byteOf (n : Nat) : Byte := BitVec.ofNat 8 n

/-- Off or on, clear or set: 0 or 1 (R173). -/
def flagByte (b : Bool) : Byte := if b then 1 else 0

/-- The result codes (R174's table). -/
def Result.code : Result → Byte
  | .ok => 0x00
  | .busy => 0x01
  | .dupTag => 0x02
  | .badCode => 0x03
  | .badLength => 0x04
  | .badField => 0x05
  | .noSuch => 0x06
  | .noRoom => 0x07
  | .inUse => 0x08
  | .wrongState => 0x09
  | .archiveBusy => 0x0A
  | .failed => 0x0B

/-- The report kinds' codes (9.5). -/
def Kind.code : Kind → Nat
  | .started => 0x01
  | .linkFault => 0x02
  | .draftEnded => 0x03
  | .pageMissing => 0x04
  | .fieldOverflow => 0x05
  | .entryFired => 0x06
  | .overrideEnded => 0x07
  | .overrideRefused => 0x08
  | .listWrapped => 0x09
  | .listStarved => 0x0A
  | .holdExpired => 0x0B
  | .clockLost => 0x0C
  | .calendarWrap => 0x0D
  | .selection => 0x0E

/-- OFF (0), SHOW (1), ALL_DARK (2), ALL_CLEAR (3) (R45). -/
def Mode.code : Mode → Nat
  | .off => 0
  | .shown => 1
  | .allDark => 2
  | .allClear => 3

/-- Frame rate codes (R42). -/
def FrameRate.code : FrameRate → Nat
  | .f32 => 0
  | .f64 => 1
  | .f128 => 2

/-- Source codes of a binding (11.2). -/
def Source.code : Source → Nat
  | .clockHM => 0
  | .clockMS => 1
  | .dateDM => 2
  | .dateY => 3
  | .value => 4
  | .remain => 5

/-- Sources of a selection: 0 BLANK, 1 ROTATION, 2 OVERRIDE (R90, 11.3). -/
def SelectionSource.code : SelectionSource → Nat
  | .blank => 0
  | .rotation => 1
  | .override => 2

/-- Rotation states: 0 EMPTY, 1 STARVED, 2 RUNNING, 3 PAUSED (11.3). -/
def RotationState.code : RotationState → Nat
  | .empty => 0
  | .starved => 1
  | .running => 2
  | .paused => 3

/-- Calendar states: 0 INVALID, 1 HELD, 2 RUNNING (R107). -/
def CalendarState.code : CalendarState → Nat
  | .invalid => 0
  | .held _ => 1
  | .running => 2

/-- Crystal status: 0 STOPPED, 1 RUNNING (R107). -/
def Crystal.code : Crystal → Nat
  | .stopped => 0
  | .running => 1

/-- Link speeds: 0 for 19 200, 1 for 115 200 (R169). -/
def Speed.code : Speed → Nat
  | .baud19200 => 0
  | .baud115200 => 1

/-- Draft states: 0 FREE, 1 DRAFT, 2 COMMITTING (11.3). -/
def Draft.code : Draft → Nat
  | .free => 0
  | .editing _ _ => 1
  | .committing _ => 2

/-- Banks: 0 A, 1 B (11.3). -/
def bankCode : BankId → Nat
  | .a => 0
  | .b => 1

/-- Archive operations: 0 NONE, 1 SAVE, 2 RESTORE (11.3). -/
def ArchiveOp.code : ArchiveOp → Nat
  | .none => 0
  | .save _ _ _ _ => 1
  | .restore _ _ => 2

/-- The subject of STARTED: 1 power-on, 2 RESETN, 3 RESTART (R154). -/
def Cause.code : Cause → Nat
  | .powerOn => 1
  | .resetn => 2
  | .restart => 3

/-- Action kinds: 1 SHOW, 2 SELECT, 3 CLEAR_BELOW, 4 DISPLAY (R111). -/
def Action.code : Action → Nat
  | .showPage _ _ _ => 1
  | .selectList _ => 2
  | .clearBelow _ => 3
  | .display _ => 4

/-! ## Byte layouts of replies -/

/-- A number in two bytes, least significant first (R173). -/
def twoBytes (n : Nat) : List Byte := halfBytes (BitVec.ofNat 16 n)

/-- A number in four bytes, least significant first (R173). -/
def fourBytes (n : Nat) : List Byte := quadBytes (BitVec.ofNat 32 n)

/-- A register's value in four bytes of two's complement (R173). -/
def valueBytes (v : Int) : List Byte := quadBytes (BitVec.ofInt 32 v)

/-- One reference in the bytes of SET_CELL (11.2). -/
def refBytes : Option DotRef → List Byte
  | none => [0xFF, 0xFF]
  | some d => [byteOf d.common.val, byteOf d.segment.val]

/-- The options byte of a binding (11.2, BIND_FIELD). -/
def optionsByte (b : Binding) : Byte := byteOf b.point ||| (if b.suppress then 0x80 else 0)

/-- A pattern part in one byte: 0xFF for absent (11.2). -/
def partByte : Option Nat → Byte
  | none => 0xFF
  | some n => byteOf n

/-- The day and weekday-set bytes of a day part (11.2, SET_ENTRY). -/
def dayBytes : DayPart → List Byte
  | .any => [0xFF, 0]
  | .dayOfMonth d => [byteOf d, 0]
  | .weekdays set => [0xFF, set.zeroExtend 8]

/-- Action kind and arguments of an entry: bytes 7 to 11 of SET_ENTRY (11.2). -/
def actionBytes : Action → List Byte
  | .showPage page priority duration => [1, byteOf page, byteOf priority] ++ twoBytes duration
  | .selectList list => [2, byteOf list.val, 0, 0, 0]
  | .clearBelow priority => [3, byteOf priority, 0, 0, 0]
  | .display mode => [4, byteOf mode.code, 0, 0, 0]

/-- Bytes 1 to 11 of the SET_ENTRY layout for an entry (11.3, GET_ENTRY). -/
def entryBytes (e : Entry) : List Byte :=
  [partByte e.pattern.minute, partByte e.pattern.hour] ++ dayBytes e.pattern.day
    ++ [partByte e.pattern.month, flagByte e.once ||| (if e.report then 2 else 0)] ++ actionBytes e.action

/-- The state and entry of a slot (R117, 11.3): 0 FREE, 1 ARMED, 2 DISARMED, 3 SPENT; a FREE slot has every part absent, no
flags, action kind 0 and every argument 0. -/
def slotBytes : Slot → List Byte
  | .free => [0, 0xFF, 0xFF, 0xFF, 0, 0xFF, 0, 0, 0, 0, 0, 0]
  | .holds .armed e => 1 :: entryBytes e
  | .holds .disarmed e => 2 :: entryBytes e
  | .holds .spent e => 3 :: entryBytes e

/-- A report record in six bytes; 0xFF in both stamp bytes for no stamp (R177). -/
def reportBytes (r : Report) : List Byte :=
  [byteOf r.kind.code, byteOf r.subject, byteOf r.detail, byteOf r.count]
    ++ (match r.stamp with
        | some st => [byteOf st.hour, byteOf st.minute]
        | none => [0xFF, 0xFF])

/-- An override record in six bytes: origin (0 SCHEDULE, 1 HOST), slot or 0, page, priority, remaining (11.3). -/
def overrideBytes (o : Override) : List Byte :=
  (match o.identity with
    | .schedule slot => [0, byteOf slot]
    | .host _ => [1, 0])
    ++ [byteOf o.page, byteOf o.priority] ++ twoBytes (o.remaining.getD 0)

/-- The startup record in the six bytes of SET_STARTUP (11.2, 11.3). -/
def startupBytes (r : StartupRecord) : List Byte :=
  [byteOf r.list.val, byteOf r.mode.code, byteOf r.contrast] ++ halfBytes r.mask ++ [flagByte r.attn]

end Sys2Proof.Machine
end

