-- ==== Sys2Proof/Machine/Flags.lean ====
section
/-! DEFINITION. The flags the part computes: the ATTN condition, the report enables, the dirty flag, the busy archive, a cell's
in-use flag, the CLAMPED flag, and whether a number fits a field. -/

namespace Sys2Proof.Machine

open Sys2Proof

/-- ATTN is pulled low while the queue holds a record and the ATTN enable is on (R153). -/
def ReportQueue.examineAttn (q : ReportQueue) : ReportQueue :=
  { q with attnLow := q.attnEnable && !q.records.isEmpty }

/-- Whether a report of the kind is taken under the mask: STARTED always, another kind by its position (R147 row 1, R151). -/
def kindEnabled (mask : Half) (k : Kind) : Bool := k == .started || mask.getLsbD k.code

/-- The archive's dirty flag is set (R132). -/
def State.markDirty (s : State) : State := s.setArchive { s.archive with dirty := true }

/-- A save or a restore is in progress (R134, R138). -/
def State.archiveBusy (s : State) : Bool := s.archive.op != .none

/-- A restore is in progress (R5, R139). -/
def State.restoring (s : State) : Bool :=
  match s.archive.op with
  | .restore _ _ => true
  | _ => false

/-- The part has ended its start and its link listens (R172). -/
def State.listening (s : State) : Bool := s.phase == .listening

/-- A page is present in the store (R2). -/
def State.present (s : State) (id : Nat) : Bool := s.store.pages.any (·.id == id)

/-- The binding covers the cell: first cell to first cell + count − 1 (R27). -/
def Binding.covers (b : Binding) (cell : Nat) : Bool := b.first ≤ cell && cell < b.first + b.count

/-- A bound index of the field list covers the cell (R27). -/
def FieldList.covers (f : FieldList) (cell : Nat) : Bool :=
  f.toList.any fun b => match b with
    | some b => b.covers cell
    | none => false

/-- The field list of a draft whose commit is pending covers the cell (R27). -/
def Draft.pendingCovers (d : Draft) (cell : Nat) : Bool :=
  match d with
  | .committing body => body.fields.covers cell
  | _ => false

/-- A cell's in-use flag: a stored page or the draft of a pending commit covers it (R27, R28). -/
def State.cellInUse (s : State) (cell : Nat) : Bool :=
  s.store.pages.any (fun p => p.fields.covers cell) || s.store.drafts.toList.any (fun d => d.pendingCovers cell)

/-- The sum a register takes and the CLAMPED flag (R39). -/
def clampValue (sum : Int) : Int × Bool :=
  if sum < Config.minValue then (Config.minValue, true)
  else if Config.maxValue < sum then (Config.maxValue, true)
  else (sum, false)

/-- The number of decimal digits of a magnitude below ten thousand million, where 0 has one digit: D of R34. -/
def decimalDigits (m : Nat) : Nat := 1 + ((List.range 9).filter fun k => 10 ^ (k + 1) ≤ m).length

/-- The number of cells of a VALUE binding that must show a digit: K of R34. -/
def Binding.digitCells (b : Binding) : Nat :=
  if b.suppress ∧ b.point ≠ 0 then b.count - b.point + 1 else 1

/-- Whether a value fits a VALUE binding (R34). -/
def Binding.fits (b : Binding) (v : Int) : Bool :=
  max (decimalDigits v.natAbs) b.digitCells + (if v < 0 then 1 else 0) ≤ b.count

end Sys2Proof.Machine
end

