-- ==== Sys2Proof/Machine/Render.lean ====
section
/-! DEFINITION. Rendering of fields into a page image (R29, R33 to R36) and composition of the frame (R52 to R55). -/

namespace Sys2Proof.Machine

open Sys2Proof

/-! ## Dot sets -/

/-- The dot set with one more dot. -/
def Dots.add (d : Dots) (r : DotRef) : Dots :=
  d.setIfInBounds r.segment.val (d[r.segment] ||| (1#8 <<< r.common.val))

/-- The dot set of a list of references, absent ones named by nothing. -/
def Dots.ofRefs (refs : List (Option DotRef)) : Dots :=
  refs.foldl (fun d r => match r with
    | some r => Dots.add d r
    | none => d) Dots.none

/-- A byte operation on every segment of a dot set. -/
def Dots.map1 (f : Byte → Byte) (d : Dots) : Dots := ⟨⟨d.toList.map f⟩, by simp⟩

/-- A byte operation on the corresponding segments of two dot sets. -/
def Dots.map2 (f : Byte → Byte → Byte) (d e : Dots) : Dots := ⟨⟨List.zipWith f d.toList e.toList⟩, by simp⟩

/-- Whether the dot (common `c`, segment `s`) is in the set (R175). -/
def Dots.has (d : Dots) (c s : Nat) : Bool := (d[s]?.getD 0).getLsbD c

/-- Byte `k` of `bytes` becomes segment `offset + k` (R7, R175). -/
def Dots.write (d : Dots) (offset : Nat) : List Byte → Dots
  | [] => d
  | b :: rest => Dots.write (d.setIfInBounds offset b) (offset + 1) rest

/-- The segments from `offset` to 47 in wire order (R22, R175). -/
def Dots.bytesFrom (d : Dots) (offset : Nat) : List Byte := d.toList.drop offset

/-! ## Glyphs -/

/-- The characters of a field (R29). -/
inductive Glyph where
  | digit (n : Nat)
  | minus
  | blank
deriving DecidableEq, Repr

/-- The positions of a cell's references: a to g, then the point (R25). -/
inductive Segment where
  | a
  | b
  | c
  | d
  | e
  | f
  | g
  | point
deriving DecidableEq, Repr

/-- The place of a segment in a cell's references (R25). -/
def Segment.index : Segment → Fin 8
  | .a => 0
  | .b => 1
  | .c => 2
  | .d => 3
  | .e => 4
  | .f => 5
  | .g => 6
  | .point => 7

/-- The segments each glyph lights (R29). -/
def Glyph.lit : Glyph → List Segment
  | .digit 0 => [.a, .b, .c, .d, .e, .f]
  | .digit 1 => [.b, .c]
  | .digit 2 => [.a, .b, .d, .e, .g]
  | .digit 3 => [.a, .b, .c, .d, .g]
  | .digit 4 => [.b, .c, .f, .g]
  | .digit 5 => [.a, .c, .d, .f, .g]
  | .digit 6 => [.a, .c, .d, .e, .f, .g]
  | .digit 7 => [.a, .b, .c]
  | .digit 8 => [.a, .b, .c, .d, .e, .f, .g]
  | .digit 9 => [.a, .b, .c, .d, .f, .g]
  | .digit _ => []
  | .minus => [.g]
  | .blank => []

/-! ## What a binding shows -/

/-- What a binding shows (R33): a value in its characters, all minus (for an overflow or for an INVALID calendar), or all
blank. -/
inductive Showing where
  | value (chars : List Glyph)
  | minus (overflow : Bool)
  | blank
deriving DecidableEq, Repr

/-- The low `width` decimal digits of a magnitude, right-aligned with zeros to their left. -/
def digitGlyphs (m width : Nat) : List Glyph :=
  (List.range width).map fun i => .digit (m / 10 ^ (width - 1 - i) % 10)

/-- What a VALUE binding shows for a register's value (R34, R37). -/
def Binding.showValue (b : Binding) (v : Int) : Showing :=
  if b.fits v then
    if b.suppress then
      let d := max (decimalDigits v.natAbs) b.digitCells
      let m := if v < 0 then 1 else 0
      .value (List.replicate (b.count - d - m) .blank ++ List.replicate m .minus ++ digitGlyphs v.natAbs d)
    else if v < 0 then .value (.minus :: digitGlyphs v.natAbs (b.count - 1))
    else .value (digitGlyphs v.natAbs b.count)
  else .minus true

/-- The number of leading cells of a four-digit field that suppression may blank: those before the point cell, or before the
last cell where no point is lit (R35). -/
def Binding.blankable (b : Binding) : Nat := if b.point = 0 then 3 else b.point - 1

/-- Leading zeros among the first `n` digits become blank (R35). -/
def suppressLeading : Nat → List Glyph → List Glyph
  | n + 1, .digit 0 :: rest => .blank :: suppressLeading n rest
  | _, chars => chars

/-- A four-digit value, with or without suppression (R35, R36). -/
def Binding.showFour (b : Binding) (n : Nat) : Showing :=
  if b.suppress then .value (suppressLeading b.blankable (digitGlyphs n 4)) else .value (digitGlyphs n 4)

/-- What a calendar binding shows (R35): the four digits of `n`, or all minus while the calendar is INVALID. -/
def Binding.showCalendar (b : Binding) (c : Calendar) (n : Nat) : Showing :=
  match c.state with
  | .invalid => .minus false
  | _ => b.showFour n

/-- The time a frame shows in REMAIN fields: none when no override is latched, `some none` for an untimed one (R91). -/
abbrev RemainSource := Option (Option Nat)

/-- What a REMAIN binding shows (R36, R37). -/
def Binding.showRemain (b : Binding) : RemainSource → Showing
  | some (some r) => if r ≤ Config.maxRemainShown then b.showFour (r / 60 * 100 + r % 60) else .minus true
  | some none => .blank
  | none => .blank

/-- What a binding shows (R30, R33). -/
def Binding.showing (b : Binding) (values : Vector Int 8) (c : Calendar) (remain : RemainSource) : Showing :=
  match b.source with
  | .clockHM => b.showCalendar c (c.fields.hour * 100 + c.fields.minute)
  | .clockMS => b.showCalendar c (c.fields.minute * 100 + c.fields.second)
  | .dateDM => b.showCalendar c (c.fields.day * 100 + c.fields.month)
  | .dateY => b.showCalendar c c.fields.year
  | .value => b.showValue (values[b.register]?.getD 0)
  | .remain => b.showRemain remain

/-- The character of the field's cell `k` (from 0) (R33). -/
def Showing.char : Showing → Nat → Glyph
  | .value chars, k => chars[k]?.getD .blank
  | .minus _, _ => .minus
  | .blank, _ => .blank

/-- Whether the point of the field's cell `k` (from 0) is lit (R33). -/
def Showing.pointLit (w : Showing) (b : Binding) (k : Nat) : Bool :=
  match w with
  | .value _ => b.point == k + 1
  | _ => false

/-! ## Written dots -/

/-- The references of a cell, none present where it is undefined. -/
def cellRefs (table : Vector (Option Cell) 16) (cell : Nat) : List (Option DotRef) :=
  match table[cell]? with
  | some (some refs) => refs.toList
  | _ => []

/-- The references of a cell that its character and its point light (R33). -/
def litRefs (table : Vector (Option Cell) 16) (cell : Nat) (g : Glyph) (point : Bool) : List (Option DotRef) :=
  match table[cell]? with
  | some (some refs) => (g.lit.map fun sg => refs[sg.index]) ++ (if point then [refs[Segment.point.index]] else [])
  | _ => []

/-- Every reference of the cells a binding covers (R33). -/
def Binding.coveredRefs (b : Binding) (table : Vector (Option Cell) 16) : List (Option DotRef) :=
  (List.range b.count).flatMap fun k => cellRefs table (b.first + k)

/-- Every reference a binding lights (R33). -/
def Binding.shownRefs (b : Binding) (table : Vector (Option Cell) 16) (w : Showing) : List (Option DotRef) :=
  (List.range b.count).flatMap fun k => litRefs table (b.first + k) (w.char k) (w.pointLit b k)

/-- The bound indices of a field list. -/
def FieldList.bound (f : FieldList) : List Binding := f.toList.filterMap id

/-- The page image with its fields written: a written dot is on when a binding lights it, every other dot keeps the image's
value (R33, R52 stage 2). -/
def renderFields (image : Dots) (fields : FieldList) (table : Vector (Option Cell) 16) (values : Vector Int 8)
    (c : Calendar) (remain : RemainSource) : Dots :=
  let written := Dots.ofRefs (fields.bound.flatMap fun b => b.coveredRefs table)
  let lit := Dots.ofRefs (fields.bound.flatMap fun b => b.shownRefs table (b.showing values c remain))
  Dots.map2 (· ||| ·) (Dots.map2 (fun i w => i &&& ~~~w) image written) lit

/-! ## Composition -/

/-- The commons active under a duty: 0 to duty − 1 (R41). -/
def activeCommons (duty : Nat) : Byte := BitVec.ofNat 8 (2 ^ duty - 1)

/-- Stage 3: in the off phase every dot of the mask is forced off (R52). -/
def blinkStage (mask : Option Dots) (blinkOn : Bool) (d : Dots) : Dots :=
  match mask with
  | some m => if blinkOn then d else Dots.map2 (fun i w => i &&& ~~~w) d m
  | none => d

/-- Stages 3 to 6 for the picture of stage 2: blink, invert, row and duty forcing, display mode (R52 to R55). `latched` says
whether a page is latched. -/
def compose (glass : Glass) (display : Display) (blinkOn latched : Bool) (mask : Option Dots) (picture : Dots) : Drive :=
  let rows := activeCommons glass.duty &&& display.rowMask
  match display.mode with
  | .off => .ground
  | .allDark => .scanned glass.duty display.contrast (Vector.replicate 48 rows)
  | .allClear => .scanned glass.duty display.contrast Dots.none
  | .shown =>
      let blinked := blinkStage mask blinkOn picture
      let inverted := if display.invert && latched then Dots.map1 (· ^^^ rows) blinked else blinked
      .scanned glass.duty display.contrast (Dots.map1 (· &&& rows) inverted)

end Sys2Proof.Machine
end

