-- ==== Sys2Proof/Machine/Ops.lean ====
section
/-! DEFINITION. The operations the meanings share: offering a report, recomputing the selection, re-seating and moving the
rotation, admitting and ending overrides, the prescaler restart, the calendar's second, the link's checks, hand-off and
replies, the archive's snapshot and installation, and the walk of a minute start. -/

namespace Sys2Proof.Machine

open Sys2Proof

/-! ## Reports (chapter 9) -/

/-- The stamp a record created now takes: the calendar's hour and minute unless it is INVALID (R145). -/
def Calendar.stamp (c : Calendar) : Option Stamp :=
  match c.state with
  | .invalid => none
  | _ => some ⟨c.fields.hour, c.fields.minute⟩

/-- A record of the kind and subject (R147). -/
def Report.about (r : Report) (k : Kind) (subject : Nat) : Bool := r.kind == k && r.subject == subject

/-- `n` more reports fold into a record: the count saturates at 255, the detail is replaced (R147 row 2). -/
def Report.fold (r : Report) (detail n : Nat) : Report := { r with count := min 255 (r.count + n), detail := detail }

/-- `n` reports of a kind and subject coalesce with the record of that kind and subject (R147 row 2). -/
def coalesce (records : List Report) (k : Kind) (subject detail n : Nat) : List Report :=
  records.map fun r => if r.about k subject then r.fold detail n else r

/-- The report queue settles `n` reports of one kind and subject offered together (R147, n = 1 but for the reports held aside
in a start, R155). -/
def ReportQueue.settle (q : ReportQueue) (stamp : Option Stamp) (k : Kind) (subject detail n : Nat) : ReportQueue :=
  if !kindEnabled q.mask k then q
  else if q.records.any (·.about k subject) then { q with records := coalesce q.records k subject detail n }
  else if Config.maxReports ≤ q.records.length then { q with lost := true }
  else ({ q with records := q.records ++ [⟨k, subject, detail, n, stamp⟩] } : ReportQueue).examineAttn

/-- A report offered during a start is held aside, coalescing with those of its kind and subject (R155). -/
def ReportQueue.holdAside (q : ReportQueue) (k : Kind) (subject detail : Nat) : ReportQueue :=
  if q.aside.any (·.about k subject) then { q with aside := coalesce q.aside k subject detail 1 }
  else { q with aside := q.aside ++ [⟨k, subject, detail, 1, none⟩] }

/-- A block offers a report with the stamp given (R147, R155). -/
def State.offerStamped (s : State) (stamp : Option Stamp) (k : Kind) (subject detail : Nat) : State :=
  s.setReports
    (if s.listening then s.reports.settle stamp k subject detail 1 else s.reports.holdAside k subject detail)

/-- A block offers a report, stamped by the calendar as it stands (R145, R147, R155). -/
def State.offer (s : State) (k : Kind) (subject detail : Nat) : State :=
  s.offerStamped s.calendar.stamp k subject detail

/-! ## The selection (R88 to R90) -/

/-- The highest-priority record, the newest among equals (R88). -/
def topOverride : List Override → Option Override
  | [] => none
  | o :: rest =>
      match topOverride rest with
      | none => some o
      | some best => if best.priority < o.priority then some o else some best

/-- The list the rotation walks (R60). -/
def Rotation.activeList (r : Rotation) : RotationList := r.lists[r.active]

/-- The rotation's offer: the page of the cursor's step, or none (R61). -/
def Rotation.currentPage (r : Rotation) : Option Nat :=
  match r.seat with
  | none => none
  | some seat => (r.activeList.steps[seat.cursor]?).map Step.page

/-- The rotation's state (R60). -/
def Rotation.state (r : Rotation) : RotationState :=
  match r.seat with
  | none => if r.activeList.steps.isEmpty then .empty else .starved
  | some _ => if r.paused then .paused else .running

/-- The selection the stack and the rotation give (R88). -/
def selectionOf (records : List Override) (offer : Option Nat) : Selection :=
  match topOverride records with
  | some o => ⟨some o.page, .override, some o.identity⟩
  | none =>
      match offer with
      | some page => ⟨some page, .rotation, none⟩
      | none => Selection.blank

/-- The selection is recomputed, with SELECTION when the page or the source changed (R89, R90). -/
def State.recompute (s : State) : State :=
  let new := selectionOf s.stack.records s.rotation.currentPage
  let old := s.stack.selection
  let s' := s.setStack { s.stack with selection := new }
  if new.page = old.page ∧ new.source = old.source then s'
  else s'.offer .selection (new.page.getD 0) new.source.code

/-! ## The rotation (chapter 4) -/

/-- The index of the first step from 0 that names a present page (R62). -/
def State.firstStep (s : State) (steps : List Step) : Option Nat :=
  (List.range steps.length).find? fun j => match steps[j]? with
    | some step => s.present step.page
    | none => false

/-- The order in which an advance from index `k` examines `n` steps: k + 1 to n − 1, then 0 to k (R67). -/
def advanceOrder (k n : Nat) : List Nat :=
  (List.range n).drop (k + 1) ++ (List.range n).take (k + 1)

/-- The index of the next step after `k`, cyclically, that names a present page (R67, R70). -/
def State.nextStep (s : State) (steps : List Step) (k : Nat) : Option Nat :=
  (advanceOrder k steps.length).find? fun j => match steps[j]? with
    | some step => s.present step.page
    | none => false

/-- The seat on a step with its full dwell. -/
def seatOn (steps : List Step) (j : Nat) : Option Seat := (steps[j]?).map fun step => ⟨j, step.dwell⟩

/-- Re-seating on a list, without the selection's recomputation (R62). -/
def State.reseat (s : State) (l : Fin 4) : State :=
  let steps := s.rotation.lists[l].steps
  match s.firstStep steps with
  | some j => s.setRotation { s.rotation with active := l, seat := seatOn steps j }
  | none =>
      let s' := s.setRotation { s.rotation with active := l, seat := none }
      if steps.isEmpty then s' else s'.offer .listStarved l.val 0

/-- Re-seating with the hand-off of the current page to the override stack (R61, R62). -/
def State.reseatAndOffer (s : State) (l : Fin 4) : State := (s.reseat l).recompute

/-- The advance at the end of a dwell (R67), with the hand-off of the current page. -/
def State.advance (s : State) (k : Nat) : State :=
  let list := s.rotation.activeList
  match s.nextStep list.steps k with
  | none => s
  | some j =>
      let s' := s.setRotation { s.rotation with seat := seatOn list.steps j }
      let s'' := if j ≤ k ∧ list.wrapFlag then s'.offer .listWrapped s.rotation.active.val 0 else s'
      s''.recompute

/-- The rotation's part of a second tick (R66): a RUNNING rotation takes 1 from the remaining dwell, and advances when it
reaches 0. -/
def State.countDwell (s : State) : State :=
  match s.rotation.seat, s.rotation.paused with
  | some seat, false =>
      if 1 < seat.remaining then
        s.setRotation { s.rotation with seat := some { seat with remaining := seat.remaining - 1 } }
      else s.advance seat.cursor
  | _, _ => s

/-- The rotation's reaction to "page deleted" (R70), without the selection's recomputation. -/
def State.rotationPageGone (s : State) (page : Nat) : State :=
  match s.rotation.seat with
  | none => s
  | some seat =>
      let steps := s.rotation.activeList.steps
      if (steps[seat.cursor]?).map Step.page = some page then
        match s.nextStep steps seat.cursor with
        | some j => s.setRotation { s.rotation with seat := seatOn steps j }
        | none =>
            (s.setRotation { s.rotation with seat := none }).offer .listStarved s.rotation.active.val 0
      else s

/-- The rotation's reaction to "page created" (R71). -/
def State.rotationPageCreated (s : State) (page : Nat) : State :=
  if s.rotation.state = .starved ∧ s.rotation.activeList.steps.any (·.page == page) then
    s.reseatAndOffer s.rotation.active
  else s

/-! ## The override stack (chapter 5) -/

/-- OVERRIDE_ENDED for each record of a list, in its order (5.3). -/
def State.offerEnded (s : State) (detail : Nat) : List Override → State
  | [] => s
  | o :: rest => State.offerEnded (s.offer .overrideEnded o.page detail) detail rest

/-- The records that satisfy `gone` leave the stack, each with OVERRIDE_ENDED in age order (5.3). The selection is not
recomputed here. -/
def State.endOverrides (s : State) (gone : Override → Bool) (detail : Nat) : State :=
  (s.setStack { s.stack with records := s.stack.records.filter (fun o => !gone o) }).offerEnded detail
    (s.stack.records.filter gone)

/-- What becomes of a request or firing that asks for a record (R76 to R79). -/
inductive Admission where
  | created
  | replaced
  | evicted (page : Nat)
  | refused
deriving DecidableEq, Repr

/-- The lowest priority present (R78). -/
def lowestPriority (records : List Override) : Nat := records.foldl (fun m o => min m o.priority) 7

/-- A record asked for: replaced where its identity stands (R77), appended where there is room, otherwise the oldest record
of the lowest priority is evicted for a higher priority, or the record is refused (R78). The page is known to be present; the
selection is not recomputed here. -/
def State.admitRecord (s : State) (new : Override) : Admission × State :=
  let records := s.stack.records
  if records.any (·.identity == new.identity) then
    (.replaced, s.setStack { s.stack with records := records.filter (·.identity != new.identity) ++ [new] })
  else if records.length < Config.maxOverrides then
    (.created, s.setStack { s.stack with records := records ++ [new] })
  else
    let low := lowestPriority records
    if low < new.priority then
      match records.find? (·.priority == low) with
      | some victim =>
          let s' := s.setStack { s.stack with records := records.erase victim ++ [new] }
          (.evicted victim.page, s'.offer .overrideEnded victim.page 4)
      | none => (.refused, s)
    else (.refused, s)

/-- The override stack takes a SHOW hand-off (R79). -/
def State.takeShow (s : State) (slot page priority duration : Nat) : State :=
  if s.present page then
    match s.admitRecord ⟨.schedule slot, page, priority, readDuration duration⟩ with
    | (.refused, _) => s.offer .overrideRefused slot page
    | (_, s') => s'.recompute
  else s.offer .pageMissing page slot

/-- The override stack takes a CLEAR_BELOW (R83). -/
def State.takeClearBelow (s : State) (priority : Nat) : State :=
  (s.endOverrides (fun o => o.priority ≤ priority) 2).recompute

/-- One second less of a timed record (R80). -/
def Override.count (o : Override) : Override := { o with remaining := o.remaining.map (· - 1) }

/-- A timed record that the next second tick brings to 0 (R80). -/
def Override.expiring (o : Override) : Bool :=
  match o.remaining with
  | some r => r ≤ 1
  | none => false

/-- The override stack's part of a second tick (R80): every timed record counts, those that reach 0 expire in age order, and
the selection is recomputed once when one expired. -/
def State.countOverrides (s : State) : State :=
  let expired := s.stack.records.filter Override.expiring
  let kept := (s.stack.records.filter (fun o => !o.expiring)).map Override.count
  let s' := (s.setStack { s.stack with records := kept }).offerEnded 1 expired
  if expired.isEmpty then s' else s'.recompute

/-! ## The prescaler and the calendar (chapter 6) -/

/-- Prescaler counts in one frame period (R94). -/
def FrameRate.period : FrameRate → Nat
  | .f32 => 1024
  | .f64 => 512
  | .f128 => 256

/-- A prescaler restart (R95): the count returns to 0, the blink phase is set on (R57), and the next boundary falls one frame
period later (R49). -/
def State.restartPrescaler (s : State) : State :=
  (s.setCalendar { s.calendar with prescaler := 0 }).setFrame
    { s.frame with blinkOn := true, nextBoundary := s.frame.rate.period }

/-- Days of the year before a month (R96). -/
def daysBeforeMonth (year : Nat) : Nat → Nat
  | 0 => 0
  | 1 => 0
  | m + 2 => daysBeforeMonth year (m + 1) + monthLength year (m + 1)

/-- Days from 2000-01-01 to a date (R96). -/
def dayNumber (year month day : Nat) : Nat :=
  let y := year - 2000
  365 * y + (y + 3) / 4 + daysBeforeMonth year month + (day - 1)

/-- The weekday of a date: 2000-01-01 has weekday 5 (R96). -/
def weekdayOf (year month day : Nat) : Nat := (dayNumber year month day + 5) % 7

/-- The date one day later; the day after 2099-12-31 is 2000-01-01 (R97). The weekday is derived afresh. -/
def CalendarFields.nextDay (f : CalendarFields) : CalendarFields :=
  let (year, month, day) :=
    if f.day < monthLength f.year f.month then (f.year, f.month, f.day + 1)
    else if f.month < 12 then (f.year, f.month + 1, 1)
    else if f.year < 2099 then (f.year + 1, 1, 1)
    else (2000, 1, 1)
  { f with year := year, month := month, day := day, weekday := weekdayOf year month day }

/-- The fields one second later (R97). -/
def CalendarFields.nextSecond (f : CalendarFields) : CalendarFields :=
  if f.second < 59 then { f with second := f.second + 1 }
  else if f.minute < 59 then { f with second := 0, minute := f.minute + 1 }
  else if f.hour < 23 then { f with second := 0, minute := 0, hour := f.hour + 1 }
  else ({ f with second := 0, minute := 0, hour := 0 } : CalendarFields).nextDay

/-- The last second of the calendar's range (R97). -/
def CalendarFields.isLast (f : CalendarFields) : Bool :=
  f.year == 2099 && f.month == 12 && f.day == 31 && f.hour == 23 && f.minute == 59 && f.second == 59

/-- The values a minute start carries (R97). -/
def CalendarFields.minuteStart (f : CalendarFields) : MinuteStart := ⟨f.minute, f.hour, f.day, f.weekday, f.month⟩

/-- The calendar runs with the fields it holds, and the hold timer stops (R102). -/
def State.runCalendar (s : State) : State := s.setCalendar { s.calendar with state := .running }

/-- The release of a HELD calendar (R102, R103, R108): it runs, and the prescaler restarts. -/
def State.releaseHold (s : State) : State := s.runCalendar.restartPrescaler

/-- The second tick at a HELD calendar (R104): the hold timer adds 1, and at 2 the hold expires without a prescaler restart. -/
def State.countHold (s : State) (timer : Nat) : State :=
  if timer + 1 < Config.holdLimit then s.setCalendar { s.calendar with state := .held (timer + 1) }
  else s.runCalendar.offer .holdExpired 0 0

/-! ## The page store (chapter 1) -/

/-- A page record by its id (R2). -/
def State.findPage (s : State) (id : Nat) : Option Page := s.store.pages.find? (·.id == id)

/-- The record takes its place in ascending id, over one of the same id (R1, R2). -/
def putPage (p : Page) : List Page → List Page
  | [] => [p]
  | q :: rest => if p.id < q.id then p :: q :: rest else if p.id = q.id then p :: rest else q :: putPage p rest

/-- Clear overflow latches (R1). -/
def clearLatches : Vector Bool 4 := Vector.replicate 4 false

/-- A page record without set latches, as the archive copies and installs it (R1, R129). -/
def Page.unlatched (p : Page) : Page := { p with latches := clearLatches }

/-- A draft of the store (R3). -/
def PageStore.setDraft (st : PageStore) (d : Fin 2) (x : Draft) : PageStore := { st with drafts := st.drafts.set d x }

/-- The idle count of one draft at a second tick (R9). -/
def State.countDraft (s : State) (d : Fin 2) : State :=
  match s.store.drafts[d] with
  | .editing body idle =>
      if idle + 1 < Config.draftIdleLimit then s.setStore (s.store.setDraft d (.editing body (idle + 1)))
      else (s.setStore (s.store.setDraft d .free)).offer .draftEnded body.target 1
  | _ => s

/-- The page store's part of a second tick (R9). DESIGN CHOICE (log entry 25): where both drafts reach the limit at one tick,
draft 0 expires first; R9 names no order. -/
def State.countDrafts (s : State) : State := (s.countDraft 0).countDraft 1

/-! ## The link (chapter 10) -/

/-- The three deferred requests in progress hold one reserved place each, and a request handed and not yet taken holds one
(R163, R165). -/
def State.reservedPlaces (s : State) : Nat :=
  s.store.commits.length + (if s.archiveBusy then 1 else 0) + (if s.link.handed.isSome then 1 else 0)

/-- The free places of the reply queue (R163). -/
def State.freePlaces (s : State) : Nat := Config.replyPlaces - (s.link.replies.length + s.reservedPlaces)

/-- A reply is produced: it joins the reply queue, and its tag leaves the unanswered set (R162, R164). -/
def State.reply (s : State) (r : Reply) : State :=
  s.setLink { s.link with unanswered := s.link.unanswered.erase r.tag, replies := s.link.replies ++ [r] }

/-- A refusal of R161: it joins the reply queue in a free place, and otherwise is dropped with LINK_FAULT (R163). -/
def State.refuseFrame (s : State) (tag : Byte) (result : Result) : State :=
  if 0 < s.freePlaces then s.setLink { s.link with replies := s.link.replies ++ [⟨tag, result, [], false⟩] }
  else s.offer .linkFault 4 0

/-- An intact frame is accepted by the link: it joins the inbox and the unanswered set (R161). -/
def State.acceptRequest (s : State) (r : Request) : State :=
  s.setLink { s.link with inbox := s.link.inbox ++ [r], unanswered := s.link.unanswered ++ [r.tag] }

/-- The link's checks of an intact frame, in order (R161). -/
def State.checkRequest (s : State) (r : Request) : State :=
  if 15 < r.tag.toNat then s.refuseFrame r.tag .badField
  else if s.link.unanswered.contains r.tag then s.refuseFrame r.tag .dupTag
  else if Config.maxUnanswered ≤ s.link.unanswered.length then s.refuseFrame r.tag .busy
  else
    match lengthRule r.code with
    | none => s.refuseFrame r.tag .badCode
    | some l => if l.allows r.payload.length then s.acceptRequest r else s.refuseFrame r.tag .badLength

/-- The receiver's state changes. -/
def State.receive (s : State) (r : Receiver) : State := s.setLink { s.link with receiver := r }

/-- The request of an intact frame's body: tag, code, payload (R157). -/
def requestOf : List Byte → Option Request
  | tag :: code :: payload => some ⟨tag, code, payload⟩
  | _ => none

/-- The receiver takes one byte (R158). During a start received bytes are ignored (R172). -/
def State.takeByte (s : State) (b : Byte) : State :=
  if s.listening then
    match s.link.receiver with
    | .hunt => if b = Config.requestSof then s.receive .length else s
    | .length =>
        if 2 ≤ b.toNat ∧ b.toNat ≤ 65 then s.receive (.body b [] b.toNat)
        else (s.receive .hunt).offer .linkFault 3 0
    | .body len taken due =>
        if 1 < due then s.receive (.body len (taken ++ [b]) (due - 1)) else s.receive (.check len (taken ++ [b]))
    | .check len taken =>
        if checkByte (len :: taken) = b then
          match requestOf taken with
          | some r => (s.receive .hunt).checkRequest r
          | none => s.receive .hunt
        else (s.receive .hunt).offer .linkFault 1 0
  else s

/-- The receiver takes the bytes of a frame one after another. -/
def State.takeBytes (s : State) (bytes : List Byte) : State := bytes.foldl State.takeByte s

/-- A RESTART's reply waits to be transmitted, or the start it causes is due (R164, R171). -/
def State.restartWaits (s : State) : Bool := s.link.restartDue || s.link.replies.any Reply.restarts

/-- The three conditions of a hand-off (R164). -/
def State.canHandOff (s : State) : Bool :=
  s.link.handed.isNone && 0 < s.freePlaces && !s.restartWaits

/-- The link hands the oldest inbox request to its owner when the conditions hold (R164). -/
def State.handOff (s : State) : State :=
  match s.link.inbox with
  | [] => s
  | r :: rest =>
      if s.canHandOff then s.setLink { s.link with inbox := rest, handed := some r } else s

/-- What an owner makes of a request it takes (R164, R165, R167): an OK reply and a new state, a refusal that changes nothing,
a deferred request with a new state, or RESTART's reply. -/
inductive Taken where
  | ok (payload : List Byte) (s : State)
  | refused (result : Result) (payload : List Byte)
  | deferred (s : State)
  | restart

/-- The handed request is taken: the hand-off's slot is empty, and its reserved place goes to the reply or stays with the
deferred request (R164, R165). -/
def State.unhand (s : State) : State := s.setLink { s.link with handed := none }

/-- An owner's refusal with no payload (R174). -/
def Taken.no (result : Result) : Taken := .refused result []

/-- The taking of a request by its owner, with the reply it produces (R164, R167). -/
def State.conclude (s : State) (tag : Byte) : Taken → State
  | .ok payload s' => s'.reply ⟨tag, .ok, payload, false⟩
  | .refused result payload => s.reply ⟨tag, result, payload, false⟩
  | .deferred s' => s'
  | .restart => s.reply ⟨tag, .ok, [], true⟩

/-- The owner takes the request that the link has handed it (R164). -/
def State.takeHanded (s : State) (tag : Byte) (owner : State → Taken) : State :=
  s.unhand.conclude tag (owner s.unhand)

/-- A request command (log entry 3). Where the link has handed this very request, its owner takes it (R164). Otherwise the host
sends the request: the receiver takes the bytes of its frame (R158), and where the link accepts it, no other request waits and
the conditions of R164 hold, it is handed over and taken. Each of these is a happening the manual describes. A request the link
refuses or queues goes no further (R167). -/
def takeRequest (r : Request) (owner : State → Taken) (s : State) : State :=
  if s.link.handed = some r then s.takeHanded r.tag owner
  else
    let sent := s.takeBytes r.frameBytes
    if s.link.inbox = [] ∧ sent.link.inbox = [r] ∧ sent.canHandOff = true then sent.handOff.takeHanded r.tag owner
    else sent

/-! ## The archive (chapter 8) -/

/-- A copy of the six stored collections as they stand (R129, R135). -/
def State.snapshot (s : State) : Collections where
  glass := s.frame.glass
  cells := s.cells.table
  pages := s.store.pages.map Page.unlatched
  lists := s.rotation.lists
  slots := s.schedule.slots
  startup := s.archive.startup

/-- The six stored collections are installed, each over its live counterpart (R140 step 1, R142). -/
def State.install (s : State) (c : Collections) : State :=
  { s with
    frame := { s.frame with glass := c.glass }
    cells := { s.cells with table := c.cells }
    store := { s.store with pages := c.pages.map Page.unlatched }
    rotation := { s.rotation with lists := c.lists }
    schedule := { s.schedule with slots := c.slots }
    archive := { s.archive with startup := c.startup } }

/-- A bank's content. -/
def Archive.content (a : Archive) : BankId → BankContent
  | .a => a.bankA
  | .b => a.bankB

/-- A bank's validity record (R133). -/
def Archive.record (a : Archive) : BankId → Option Nat
  | .a => a.recordA
  | .b => a.recordB

/-- The other bank. -/
def otherBank : BankId → BankId
  | .a => .b
  | .b => .a

/-- A bank's content changes. -/
def Archive.setContent (a : Archive) (bank : BankId) (x : BankContent) : Archive :=
  match bank with
  | .a => { a with bankA := x }
  | .b => { a with bankB := x }

/-- A bank's validity record changes. -/
def Archive.setRecord (a : Archive) (bank : BankId) (x : Option Nat) : Archive :=
  match bank with
  | .a => { a with recordA := x }
  | .b => { a with recordB := x }

/-- The current bank with its sequence number (R133). -/
def Archive.current (a : Archive) : Option (BankId × Nat) :=
  match a.recordA, a.recordB with
  | some m, some n => if m < n then some (.b, n) else some (.a, m)
  | some m, none => some (.a, m)
  | none, some n => some (.b, n)
  | none, none => none

/-- The target bank and sequence number of a save (R135 step 3). -/
def Archive.saveTarget (a : Archive) : BankId × Nat :=
  match a.current with
  | none => (.a, 1)
  | some (bank, n) => (otherBank bank, n + 1)

/-- The start-up check of a bank: its sequence number when it has a marker and its check passes (R142 step 1). -/
def BankContent.checked : BankContent → Option Nat
  | .marked n _ true => some n
  | _ => none

/-- The sequence number of a damaged bank, as it stands in the bank (R133, R142). -/
def BankContent.damaged : BankContent → Option Nat
  | .marked n _ false => some n
  | _ => none

/-! ## The walk of a minute start (chapter 7) -/

/-- A present part equals the value, and an absent part matches (R118). -/
def partMatches (part : Option Nat) (value : Nat) : Bool :=
  match part with
  | none => true
  | some n => n == value

/-- The day part's match (R118). -/
def DayPart.allows (d : DayPart) (m : MinuteStart) : Bool :=
  match d with
  | .any => true
  | .dayOfMonth n => n == m.day
  | .weekdays set => set.getLsbD m.weekday

/-- The four pattern parts match a minute start (R118). -/
def Pattern.allows (p : Pattern) (m : MinuteStart) : Bool :=
  partMatches p.minute m.minute && partMatches p.hour m.hour && p.day.allows m && partMatches p.month m.month

/-- The firing of a slot at a minute start, when its entry is ARMED and matches (R118, R119). -/
def Slot.firing (m : MinuteStart) (slot : Nat) : Slot → Option Firing
  | .holds .armed e => if e.pattern.allows m then some ⟨slot, e, m⟩ else none
  | _ => none

/-- The firings of a minute start in ascending slot order, read when it is taken (R119). -/
def Schedule.firings (sc : Schedule) (m : MinuteStart) : List Firing :=
  sc.slots.toList.zipIdx.filterMap fun p => p.1.firing m p.2

/-- The schedule takes the oldest minute start handed to it, when no walk is unfinished (R119). -/
def State.beginWalk (s : State) : State :=
  match s.schedule.walk, s.schedule.minuteStarts with
  | [], m :: rest => s.setSchedule { s.schedule with minuteStarts := rest, walk := s.schedule.firings m }
  | _, _ => s

/-- Step 1 of a firing: the owner acts on the action within the hand-off (R120). -/
def State.handAction (s : State) (slot : Nat) : Action → State
  | .showPage page priority duration => s.takeShow slot page priority duration
  | .selectList list => s.reseatAndOffer list
  | .clearBelow priority => s.takeClearBelow priority
  | .display mode => s.setFrame { s.frame with display := { s.frame.display with mode := mode } }

/-- Steps 2 and 3 of a firing: ENTRY_FIRED, stamped with the minute start's hour and minute (R121), and the SPENT marking with
the dirty flag (R122). -/
def State.noteFiring (s : State) (f : Firing) : State :=
  let s1 :=
    if f.entry.report then
      s.offerStamped (some ⟨f.start.hour, f.start.minute⟩) .entryFired f.slot f.entry.action.code
    else s
  if f.entry.once then
    (s1.setSchedule { s1.schedule with slots := s1.schedule.slots.setIfInBounds f.slot (.holds .spent f.entry) }).markDirty
  else s1

/-- One whole firing (R119). -/
def State.fire (s : State) (f : Firing) : State := (s.handAction f.slot f.entry.action).noteFiring f

/-- The firing at the front of the walk, whole (R119). -/
def State.fireNext (s : State) : State :=
  match s.schedule.walk with
  | [] => s
  | f :: rest => (s.setSchedule { s.schedule with walk := rest }).fire f

/-- `n` firings of the walk, one after another. -/
def State.fireMany (s : State) : Nat → State
  | 0 => s
  | n + 1 => State.fireMany s.fireNext n

/-- The unfinished walk is completed: the schedule takes a minute start whole (R119, R125). While the calendar is not RUNNING
no entry fires, and what is left of a walk is dropped (R126; log entry 26). -/
def State.finishWalk (s : State) : State :=
  if s.calendar.state = .running then s.fireMany s.schedule.walk.length
  else s.setSchedule { s.schedule with walk := [] }

/-- The schedule takes a minute start whole: what is left of the one begun, or else the oldest that waits (R119). -/
def State.takeMinute (s : State) : State := s.beginWalk.finishWalk

/-- `n` minute starts are taken, one after another. -/
def State.takeMinutes (s : State) : Nat → State
  | 0 => s
  | n + 1 => State.takeMinutes s.takeMinute n

/-- Every minute start handed over is taken whole. The calendar's happenings that end its minute or its RUNNING state come after
the minute starts it has handed over (R97, R121, R126, R145; log entry 26). -/
def State.takeWaiting (s : State) : State := s.takeMinutes (s.schedule.minuteStarts.length + 1)

/-- An owner that takes a minute start whole acts on what an unfinished walk leaves (R125). A request it refuses leaves the walk
as it stands (R167; log entry 9). -/
def afterWalk (owner : State → Taken) (s : State) : Taken := owner s.finishWalk

/-- A hand-off command: the next firing of the walk of a RUNNING calendar's minute start, when its action is the one named;
otherwise no such hand-off is due and nothing changes (R126; log entry 5). -/
def State.handDue (s : State) (isIt : Firing → Bool) : State :=
  match s.calendar.state, s.beginWalk.schedule.walk with
  | .running, f :: _ => if isIt f then s.beginWalk.fireNext else s
  | _, _ => s

/-- The second tick at a RUNNING calendar (R97): the fields advance, CALENDAR_WRAP is queued at the end of 2099, and a minute
start is handed to the schedule, except during a start (R108). The end of a minute comes after the minute starts handed over
before it (R145; log entry 26). -/
def State.countSecond (s : State) : State :=
  let f := s.calendar.fields.nextSecond
  let s0 := if f.second = 0 then s.takeWaiting else s
  let s1 := s0.setCalendar { s.calendar with fields := f }
  let s2 := if s.calendar.fields.isLast then s1.offer .calendarWrap 0 0 else s1
  if f.second = 0 ∧ s.listening then
    s2.setSchedule { s2.schedule with minuteStarts := s2.schedule.minuteStarts ++ [f.minuteStart] }
  else s2

/-! ## Second ticks (R94) -/

/-- One second tick owed to the calendar is taken. -/
def Owed.lessCalendar (o : Owed) : Owed := { o with calendar := o.calendar - 1 }
/-- One second tick owed to the rotation is taken. -/
def Owed.lessRotation (o : Owed) : Owed := { o with rotation := o.rotation - 1 }
/-- One second tick owed to the override stack is taken. -/
def Owed.lessStack (o : Owed) : Owed := { o with stack := o.stack - 1 }
/-- One second tick owed to the page store is taken. -/
def Owed.lessStore (o : Owed) : Owed := { o with store := o.store - 1 }

end Sys2Proof.Machine
end

