-- ==== Sys2Proof/Machine/ArchiveCommands.lean ====
section
/-! DEFINITION. The meanings of the archive's requests and happenings (R131, R133 to R140, R144). -/

namespace Sys2Proof.Machine

open Sys2Proof

/-- The archive takes an accepted SAVE (R135). -/
def State.beginSave (s : State) (tag : Byte) : State :=
  let target := s.archive.saveTarget
  s.setArchive
    { (s.archive.setContent target.1 .unmarked).setRecord target.1 none with
      dirty := false, op := .save target.1 target.2 s.snapshot tag }

/-- SAVE (R134, R135). The snapshot of an accepted SAVE is taken with no walk of a minute start unfinished (R125, R136). -/
def execSave (tag : Byte) (s : State) : Host.Outcome State Fault Refusal :=
  .next (takeRequest ⟨tag, 0x58, []⟩ (afterWalk fun s =>
    if s.archiveBusy then .no .archiveBusy
    else if !s.store.commits.isEmpty then .no .wrongState
    else
      match s.archive.current with
      | some (_, n) => if n = Config.maxSequence then .no .noRoom else .deferred (s.beginSave tag)
      | none => .deferred (s.beginSave tag)) s)

/-- RESTORE (R138). -/
def execRestore (tag : Byte) (s : State) : Host.Outcome State Fault Refusal :=
  .next (takeRequest ⟨tag, 0x59, []⟩ (fun s =>
    if s.archiveBusy then .no .archiveBusy
    else if !s.store.commits.isEmpty then .no .wrongState
    else
      match s.archive.current with
      | none => .no .noSuch
      | some (bank, _) => .deferred (s.setArchive { s.archive with op := .restore bank tag })) s)

/-- The target bank of a save in progress (R144). -/
def ArchiveOp.target : ArchiveOp → Option BankId
  | .save target _ _ _ => some target
  | _ => Option.none

/-- A validity record in five bytes: validity, sequence number or 0 (R144, R177). DESIGN CHOICE (log entry 27): the validity byte is
1 for a valid bank and 0 for an invalid one; the layout names the byte and not its values. -/
def recordBytes (r : Option Nat) : List Byte := flagByte r.isSome :: fourBytes (r.getD 0)

/-- The reply of ARCHIVE_INFO (R144, R177). -/
def archiveBytes (a : Archive) : List Byte :=
  recordBytes a.recordA ++ recordBytes a.recordB
    ++ [partByte (a.current.map fun c => bankCode c.1), flagByte a.dirty, byteOf a.op.code,
      partByte (a.op.target.map bankCode)]
    ++ startupBytes a.startup

/-- ARCHIVE_INFO (R144). -/
def execArchiveInfo (tag : Byte) (s : State) : Host.Outcome State Fault Refusal :=
  .next (takeRequest ⟨tag, 0x5A, []⟩ (fun s => .ok (archiveBytes s.archive) s) s)

/-- SET_STARTUP (R131). -/
def execSetStartup (tag list mode contrast : Byte) (mask : Half) (attn : Byte) (s : State) :
    Host.Outcome State Fault Refusal :=
  .next (takeRequest ⟨tag, 0x5B, [list, mode, contrast] ++ halfBytes mask ++ [attn]⟩ (fun s =>
    match readStartup list mode contrast mask attn with
    | none => .no .badField
    | some r =>
        if s.archiveBusy then .no .archiveBusy
        else .ok [] (s.setArchive { s.archive with startup := r }).markDirty) s)

/-- The payload of a SAVE's or RESTORE's OK reply: the bank and its sequence number (R137, R140, R177). -/
def bankReply (tag : Byte) (bank : BankId) (sequence : Nat) : Reply :=
  ⟨tag, .ok, byteOf (bankCode bank) :: fourBytes sequence, false⟩

/-- SAVE_END: the verify passes, and the target bank takes its marker and is valid, or it fails and the dirty flag is set
(R137). -/
def execSaveEnd (verified : Bool) (s : State) : Host.Outcome State Fault Refusal :=
  match s.archive.op with
  | .save target n image tag =>
      if verified then
        .next ((s.setArchive
          { (s.archive.setContent target (.marked n image true)).setRecord target (some n) with op := .none }).reply
            (bankReply tag target n))
      else
        .next ((s.setArchive
          { (s.archive.setContent target .unmarked).setRecord target none with op := .none, dirty := true }).reply
            ⟨tag, .failed, [], false⟩)
  | _ => .next s

/-- A draft in DRAFT state becomes FREE with DRAFT_ENDED, detail 2 (R140 step 2). -/
def State.abandonDraft (s : State) (d : Fin 2) : State :=
  match s.store.drafts[d] with
  | .editing body _ => (s.setStore (s.store.setDraft d .free)).offer .draftEnded body.target 2
  | _ => s

/-- Steps 1 to 5 of a completed restore: the collections are installed, drafts freed, the stack emptied, the rotation re-seated
on the installed start list and the selection recomputed (R140). -/
def State.installRestored (s : State) (image : Collections) : State :=
  (((((s.install image).abandonDraft 0).abandonDraft 1).endOverrides (fun _ => true) 5).reseat image.startup.list).recompute

/-- RESTORE_COMPLETE: a passing check installs the image, a failing one changes nothing; the deferred reply follows (R140). -/
def execRestoreComplete (s : State) : Host.Outcome State Fault Refusal :=
  match s.archive.op with
  | .restore bank tag =>
      let s0 := s.finishWalk
      match s.archive.content bank with
      | .marked n image true =>
          let s1 := s0.installRestored image
          .next ((s1.setArchive { s1.archive with dirty := false, op := .none }).reply
            (bankReply tag bank ((s.archive.record bank).getD n)))
      | _ => .next ((s.setArchive { s.archive with op := .none }).reply ⟨tag, .failed, [], false⟩)
  | _ => .next s

/-- BANK_DAMAGED: a bank whose writing has ended keeps its marker, and its image no longer agrees with its check value; the
sequence number stands in it as the fault leaves it (R133, R142). A bank being written has no marker. -/
def execBankDamaged (bank : BankId) (sequence : Quad) (s : State) : Host.Outcome State Fault Refusal :=
  match s.archive.content bank with
  | .marked _ image _ => .next (s.setArchive (s.archive.setContent bank (.marked sequence.toNat image false)))
  | .unmarked => .next s

end Sys2Proof.Machine
end

