-- ==== Sys2Proof/Machine/CalendarCommands.lean ====
section
/-! DEFINITION. The meanings of the calendar's requests and happenings (R92 to R107), and of the prescaler's ticks (R94). -/

namespace Sys2Proof.Machine

open Sys2Proof

/-- The fields SET_TIME carries, with the weekday derived, when R99 accepts them. -/
def readTime (year month day hour minute second : Byte) : Option CalendarFields :=
  let y := 2000 + year.toNat
  if year.toNat ≤ 99 ∧ 1 ≤ month.toNat ∧ month.toNat ≤ 12
      ∧ 1 ≤ day.toNat ∧ day.toNat ≤ monthLength y month.toNat
      ∧ hour.toNat ≤ 23 ∧ minute.toNat ≤ 59 ∧ second.toNat ≤ 59 then
    some ⟨y, month.toNat, day.toNat, hour.toNat, minute.toNat, second.toNat, weekdayOf y month.toNat day.toNat⟩
  else none

/-- The calendar takes an accepted SET_TIME (R100), after the minute starts it has handed over (R101; log entry 26). -/
def State.setTime (s : State) (f : CalendarFields) (hold : Bool) : State :=
  if hold then s.takeWaiting.setCalendar { s.calendar with fields := f, state := .held 0 }
  else (s.takeWaiting.setCalendar { s.calendar with fields := f, state := .running }).restartPrescaler

/-- SET_TIME (R99, R100). -/
def execSetTime (tag year month day hour minute second hold : Byte) (s : State) : Host.Outcome State Fault Refusal :=
  .next (takeRequest ⟨tag, 0x10, [year, month, day, hour, minute, second, hold]⟩ (fun s =>
    match readTime year month day hour minute second, readFlag hold with
    | some f, some h =>
        if s.calendar.crystal = .stopped then .no .wrongState else .ok [byteOf f.weekday] (s.setTime f h)
    | _, _ => .no .badField) s)

/-- RELEASE_TIME (R102). -/
def execReleaseTime (tag : Byte) (s : State) : Host.Outcome State Fault Refusal :=
  .next (takeRequest ⟨tag, 0x11, []⟩ (fun s =>
    match s.calendar.state with
    | .held _ => .ok [] s.releaseHold
    | _ => .no .wrongState) s)

/-- The reply of GET_TIME (R107, R177). -/
def timeBytes (c : Calendar) : List Byte :=
  [byteOf (c.fields.year - 2000), byteOf c.fields.month, byteOf c.fields.day, byteOf c.fields.hour,
    byteOf c.fields.minute, byteOf c.fields.second, byteOf c.fields.weekday, byteOf c.state.code,
    byteOf c.crystal.code, flagByte c.sync]

/-- GET_TIME (R107). -/
def execGetTime (tag : Byte) (s : State) : Host.Outcome State Fault Refusal :=
  .next (takeRequest ⟨tag, 0x12, []⟩ (fun s => .ok (timeBytes s.calendar) s) s)

/-- SET_SYNC (R103). -/
def execSetSync (tag enable : Byte) (s : State) : Host.Outcome State Fault Refusal :=
  .next (takeRequest ⟨tag, 0x13, [enable]⟩ (fun s =>
    match readFlag enable with
    | some e => .ok [] (s.setCalendar { s.calendar with sync := e })
    | none => .no .badField) s)

/-- SYNC_FALLING_EDGE: with sync enabled it releases a HELD calendar, otherwise it is ignored (R103). -/
def execSyncFallingEdge (s : State) : Host.Outcome State Fault Refusal :=
  match s.calendar.sync, s.calendar.state with
  | true, .held _ => .next s.releaseHold
  | _, _ => .next s

/-- CRYSTAL_STOPPED: a change of the status from RUNNING makes the calendar INVALID, and CLOCK_LOST with subject 1 follows
(R92, R106). The prescaler keeps its count (R93). The minute starts the calendar has handed over come before it (log entry
26). -/
def execCrystalStopped (s : State) : Host.Outcome State Fault Refusal :=
  match s.calendar.crystal with
  | .running =>
      .next ((s.takeWaiting.setCalendar { s.calendar with crystal := .stopped, state := .invalid }).offer .clockLost 1 0)
  | .stopped => .next s

/-- CRYSTAL_RESUMED: a change of the status from STOPPED restarts the prescaler on the crystal, and CLOCK_LOST with subject 2
is queued (R92, R93). -/
def execCrystalResumed (s : State) : Host.Outcome State Fault Refusal :=
  match s.calendar.crystal with
  | .stopped =>
      .next ((s.setCalendar { s.calendar with crystal := .running }).restartPrescaler.offer .clockLost 2 0)
  | .running => .next s

/-- SECOND_TICK: the prescaler begins the next tick-source second, and each recipient is owed the tick (R94). During a start
the calendar alone is (R108). -/
def execSecondTick (s : State) : Host.Outcome State Fault Refusal :=
  let s' := s.setCalendar { s.calendar with prescaler := 0 }
  if s.listening then
    .next (s'.setOwed
      { calendar := s.owed.calendar + 1, rotation := s.owed.rotation + 1, stack := s.owed.stack + 1
        store := s.owed.store + 1 })
  else .next (s'.setOwed { s.owed with calendar := s.owed.calendar + 1 })

/-- HALF_SECOND_TICK: the tick in the middle of a second sets the blink phase off, the one at its end sets it on (R57, R94). -/
def execHalfSecondTick (whole : Bool) (s : State) : Host.Outcome State Fault Refusal :=
  .next ((s.setCalendar { s.calendar with prescaler := if whole then s.calendar.prescaler else Config.halfCounts }).setFrame
    { s.frame with blinkOn := whole })

/-- CALENDAR_SECOND_COUNT: an owed second tick at a RUNNING calendar advances the fields (R97); at an INVALID one it does
nothing (R94). A HELD calendar's tick is HOLD_TIMER_COUNT's. -/
def execCalendarSecondCount (s : State) : Host.Outcome State Fault Refusal :=
  if s.owed.calendar = 0 then .next s
  else
    match s.calendar.state with
    | .running => .next (s.setOwed s.owed.lessCalendar).countSecond
    | .invalid => .next (s.setOwed s.owed.lessCalendar)
    | .held _ => .next s

/-- HOLD_TIMER_COUNT: an owed second tick at a HELD calendar counts the hold timer, with the expiry when it reaches 2 (R104).
While RESETN is held low the hold timer does not count (R108). -/
def execHoldTimerCount (s : State) : Host.Outcome State Fault Refusal :=
  if s.owed.calendar = 0 then .next s
  else
    match s.calendar.state with
    | .held timer =>
        if s.listening then .next ((s.setOwed s.owed.lessCalendar).countHold timer)
        else .next (s.setOwed s.owed.lessCalendar)
    | _ => .next s

/-- HOLD_EXPIRY: the owed second tick that brings the hold timer to 2 (R104). -/
def execHoldExpiry (s : State) : Host.Outcome State Fault Refusal :=
  match s.calendar.state with
  | .held timer =>
      if 0 < s.owed.calendar ∧ s.listening ∧ Config.holdLimit ≤ timer + 1 then
        .next ((s.setOwed s.owed.lessCalendar).countHold timer)
      else .next s
  | _ => .next s

end Sys2Proof.Machine
end

