-- ==== Sys2Proof/Machine/CellCommands.lean ====
section
/-! DEFINITION. The meanings of the cell and field unit's requests (R26 to R28, R38 to R40). -/

namespace Sys2Proof.Machine

open Sys2Proof

/-- SET_CELL (R26). -/
def execSetCell (tag cell : Byte) (refs : List (Byte × Byte)) (s : State) : Host.Outcome State Fault Refusal :=
  .next (takeRequest ⟨tag, 0x20, cell :: pairBytes refs⟩ (fun s =>
    match readIndex 16 cell, readCell refs with
    | some i, some c =>
        if s.archiveBusy then .no .archiveBusy
        else .ok [] (s.setCells { s.cells with table := s.cells.table.set i (some c) }).markDirty
    | _, _ => .no .badField) s)

/-- CLEAR_CELL (R27). -/
def execClearCell (tag cell : Byte) (s : State) : Host.Outcome State Fault Refusal :=
  .next (takeRequest ⟨tag, 0x21, [cell]⟩ (fun s =>
    match readIndex 16 cell with
    | none => .no .badField
    | some i =>
        if s.archiveBusy then .no .archiveBusy
        else if s.cells.table[i].isNone then .no .noSuch
        else if s.cellInUse i.val then .no .inUse
        else .ok [] (s.setCells { s.cells with table := s.cells.table.set i none }).markDirty) s)

/-- The reply of GET_CELL (R28, R177). -/
def cellBytes (s : State) (i : Fin 16) : List Byte :=
  match s.cells.table[i] with
  | some refs => [1, flagByte (s.cellInUse i.val)] ++ refs.toList.flatMap refBytes
  | none => [0, 0] ++ List.replicate 16 0xFF

/-- GET_CELL (R28). -/
def execGetCell (tag cell : Byte) (s : State) : Host.Outcome State Fault Refusal :=
  .next (takeRequest ⟨tag, 0x22, [cell]⟩ (fun s =>
    match readIndex 16 cell with
    | some i => .ok (cellBytes s i) s
    | none => .no .badField) s)

/-- A value register takes a value. -/
def State.setRegister (s : State) (r : Fin 8) (v : Int) : State :=
  s.setCells { s.cells with values := s.cells.values.set r v }

/-- SET_VALUE (R38). -/
def execSetValue (tag register : Byte) (value : Quad) (s : State) : Host.Outcome State Fault Refusal :=
  .next (takeRequest ⟨tag, 0x24, register :: quadBytes value⟩ (fun s =>
    match readIndex 8 register with
    | some r =>
        if Config.minValue ≤ value.toInt ∧ value.toInt ≤ Config.maxValue then .ok [] (s.setRegister r value.toInt)
        else .no .badField
    | none => .no .badField) s)

/-- ADD_VALUE: the exact sum, clamped to the range (R39). -/
def execAddValue (tag register : Byte) (delta : Quad) (s : State) : Host.Outcome State Fault Refusal :=
  .next (takeRequest ⟨tag, 0x25, register :: quadBytes delta⟩ (fun s =>
    match readIndex 8 register with
    | some r =>
        let sum := clampValue (s.cells.values[r] + delta.toInt)
        .ok (valueBytes sum.1 ++ [flagByte sum.2]) (s.setRegister r sum.1)
    | none => .no .badField) s)

/-- GET_VALUE (R40). -/
def execGetValue (tag register : Byte) (s : State) : Host.Outcome State Fault Refusal :=
  .next (takeRequest ⟨tag, 0x26, [register]⟩ (fun s =>
    match readIndex 8 register with
    | some r => .ok (valueBytes s.cells.values[r]) s
    | none => .no .badField) s)

end Sys2Proof.Machine
end

