-- ==== Sys2Proof/Machine/FrameCommands.lean ====
section
/-! DEFINITION. The meanings of the frame engine's requests (R43, R46, R48) and of the frame boundary (R14, R33, R37, R49 to
R58). -/

namespace Sys2Proof.Machine

open Sys2Proof

/-- SET_GLASS (R43). -/
def execSetGlass (tag duty rate : Byte) (s : State) : Host.Outcome State Fault Refusal :=
  .next (takeRequest ⟨tag, 0x18, [duty, rate]⟩ (fun s =>
    match readGlass duty rate with
    | none => .no .badField
    | some g =>
        if s.frame.display.mode ≠ .off then .no .wrongState
        else if s.archiveBusy then .no .archiveBusy
        else .ok [] (s.setFrame { s.frame with glass := g }).markDirty) s)

/-- SET_DISPLAY (R46). -/
def execSetDisplay (tag mode invert contrast rowMask : Byte) (s : State) : Host.Outcome State Fault Refusal :=
  .next (takeRequest ⟨tag, 0x19, [mode, invert, contrast, rowMask]⟩ (fun s =>
    match readDisplay mode invert contrast rowMask with
    | none => .no .badField
    | some d => .ok [] (s.setFrame { s.frame with display := d })) s)

/-- The reply of GET_DISPLAY (R48, R177). -/
def displayBytes (f : FrameEngine) : List Byte :=
  [byteOf f.display.mode.code, flagByte f.display.invert, byteOf f.display.contrast, f.display.rowMask,
    byteOf f.glass.duty, byteOf f.glass.rate.code, byteOf (f.latched.page.getD 0), byteOf f.latched.source.code]

/-- GET_DISPLAY (R48). -/
def execGetDisplay (tag : Byte) (s : State) : Host.Outcome State Fault Refusal :=
  .next (takeRequest ⟨tag, 0x1A, []⟩ (fun s => .ok (displayBytes s.frame) s) s)

/-! ## The frame boundary -/

/-- The record a completed commit writes (R14 steps 1 and 2). -/
def State.committedPage (s : State) (isNew : Bool) (b : DraftBody) : Page :=
  let version :=
    match isNew, s.findPage b.target with
    | false, some old => (old.version + 1) % 256
    | _, _ => 0
  ⟨b.target, version, b.image, b.mask, b.fields, clearLatches⟩

/-- The entry at the front of the pending-commit list completes (R14): the record is written, the dirty flag set, the draft
FREE, the entry removed, the deferred reply produced, and a creation notice handed to the rotation. -/
def State.completeCommit (s : State) (e : PendingCommit) : State :=
  match s.store.drafts[e.draft] with
  | .committing b =>
      let page := s.committedPage e.isNew b
      let s1 := s.setStore
        { s.store.setDraft e.draft .free with
          pages := putPage page s.store.pages, commits := s.store.commits.drop 1 }
      let s2 := s1.markDirty.reply ⟨e.tag, .ok, [byteOf page.id, byteOf page.version], false⟩
      if e.isNew then s2.rotationPageCreated page.id else s2
  | _ => s.setStore { s.store with commits := s.store.commits.drop 1 }

/-- Every entry of the pending-commit list completes, in acceptance order (R14). -/
def State.completeCommits (s : State) : State := s.store.commits.foldl State.completeCommit s

/-- The remaining time the stack supplies for the selected record at a boundary that latches an override (R91). -/
def State.remainSource (s : State) : RemainSource :=
  match s.stack.selection.record with
  | some id => (s.stack.records.find? (·.identity == id)).map Override.remaining
  | none => none

/-- The latch of one binding after a boundary that latches its page (R37). -/
def latchAfter (latch : Bool) : Showing → Bool
  | .minus true => true
  | .value _ => false
  | _ => latch

/-- What the binding at an index shows at this boundary; an unused index shows nothing. -/
def State.showingAt (s : State) (p : Page) (remain : RemainSource) (i : Fin 4) : Option Showing :=
  p.fields[i].map fun b => b.showing s.cells.values s.calendar remain

/-- The overflow latches of the latched page after the boundary (R37). -/
def State.latchesAfter (s : State) (p : Page) (remain : RemainSource) : Vector Bool 4 :=
  let after (i : Fin 4) : Bool :=
    match s.showingAt p remain i with
    | some w => latchAfter p.latches[i] w
    | none => p.latches[i]
  #v[after 0, after 1, after 2, after 3]

/-- The indices that report an overflow at this boundary, ascending (R37). -/
def State.overflowing (s : State) (p : Page) (remain : RemainSource) : List (Fin 4) :=
  [0, 1, 2, 3].filter fun i => s.showingAt p remain i == some (.minus true) && !p.latches[i]

/-- FIELD_OVERFLOW for each index of a list, in its order (R37). -/
def State.offerOverflows (s : State) (page : Nat) : List (Fin 4) → State
  | [] => s
  | i :: rest => State.offerOverflows (s.offer .fieldOverflow page i.val) page rest

/-- Rendering's effect on the latched page's overflow latches, with its reports (R37). -/
def State.updateLatches (s : State) (p : Page) (remain : RemainSource) : State :=
  (s.setStore { s.store with pages := putPage { p with latches := s.latchesAfter p remain } s.store.pages }).offerOverflows
    p.id (s.overflowing p remain)

/-- The drive of the coming frame (R52 to R56). -/
def State.composeFrame (s : State) (page : Option Page) (remain : RemainSource) : Drive :=
  match page with
  | some p =>
      compose s.frame.glass s.frame.display s.frame.blinkOn true p.mask
        (renderFields p.image p.fields s.cells.table s.cells.values s.calendar remain)
  | none => compose s.frame.glass s.frame.display s.frame.blinkOn false none Dots.none

/-- The boundary's latch, rendering and composition, once the pending commits have completed (R50, R33, R52). -/
def State.latchFrame (s : State) : State :=
  let page := s.stack.selection.page.bind s.findPage
  let remain := s.remainSource
  let s1 := s.setFrame { s.frame with latched := s.stack.selection, drive := s.composeFrame page remain }
  match page with
  | some p => s1.updateLatches p remain
  | none => s1

/-- The cadence after a boundary (R49): it takes the frame rate of the glass settings, and the next boundary falls at the first
multiple of the new frame period after it. -/
def State.keepCadence (s : State) : State :=
  let at_ := s.frame.nextBoundary % Config.secondCounts
  let period := s.frame.glass.rate.period
  (s.setCalendar { s.calendar with prescaler := at_ }).setFrame
    { s.frame with rate := s.frame.glass.rate, nextBoundary := (at_ / period + 1) * period }

/-- FRAME_BOUNDARY (R49). During a start it latches nothing and completes nothing (R58). -/
def execFrameBoundary (s : State) : Host.Outcome State Fault Refusal :=
  if s.listening then .next s.keepCadence.completeCommits.latchFrame else .next s.keepCadence

end Sys2Proof.Machine
end

