-- ==== Sys2Proof/Machine/LinkRequests.lean ====
section
/-! DEFINITION. The meanings of the requests the link takes itself, PING, IDENTIFY, STATUS and RESTART (R169 to R171), and of
the link's own happenings (R158, R159, R164, R168). -/

namespace Sys2Proof.Machine

open Sys2Proof

/-- PING: OK with the same bytes (R169). -/
def execPing (tag : Byte) (bytes : List Byte) (s : State) : Host.Outcome State Fault Refusal :=
  .next (takeRequest ⟨tag, 0x01, bytes⟩ (fun s => .ok bytes s) s)

/-- The identification of the part: code, revision, link speed and the twelve capacities (R169, R177). -/
def identification (speed : Speed) : List Byte :=
  [0x08, 0x48, 1, byteOf speed.code, 24, 2, 16, 8, 4, 16, 6, 32, 16, 16, 4, 8]

/-- IDENTIFY (R169). -/
def execIdentify (tag : Byte) (s : State) : Host.Outcome State Fault Refusal :=
  .next (takeRequest ⟨tag, 0x02, []⟩ (fun s => .ok (identification s.link.speed) s) s)

/-- The picture of every block's state that STATUS returns (R170, R177). -/
def statusBytes (tag : Byte) (s : State) : List Byte :=
  [byteOf s.calendar.state.code, byteOf s.calendar.crystal.code, byteOf s.frame.display.mode.code,
    byteOf s.stack.selection.source.code, byteOf (s.stack.selection.page.getD 0), byteOf s.stack.records.length,
    byteOf s.rotation.state.code, byteOf s.rotation.active.val, partByte (s.rotation.seat.map Seat.cursor),
    byteOf s.store.drafts[0].code, byteOf s.store.drafts[1].code, byteOf s.store.commits.length,
    byteOf s.reports.records.length, flagByte s.reports.lost]
    ++ halfBytes s.reports.mask
    ++ [flagByte s.reports.attnEnable, flagByte s.archive.dirty, byteOf s.archive.op.code,
      byteOf (s.link.unanswered.erase tag).length]

/-- STATUS (R170). -/
def execStatus (tag : Byte) (s : State) : Host.Outcome State Fault Refusal :=
  .next (takeRequest ⟨tag, 0x03, []⟩ (fun s => .ok (statusBytes tag s) s) s)

/-- RESTART: OK, and no hand-off until its reply has been transmitted (R171). -/
def execRestart (tag : Byte) (s : State) : Host.Outcome State Fault Refusal :=
  .next (takeRequest ⟨tag, 0x04, []⟩ (fun _ => .restart) s)

/-- BYTE_RECEIVED: a character whose stop bit is low is no byte at all (R156); otherwise the receiver takes it (R158). -/
def execByteReceived (byte : Byte) (stopBit : Bool) (s : State) : Host.Outcome State Fault Refusal :=
  .next (if stopBit then s.takeByte byte else s)

/-- GAP_TIMER_EXPIRY: the frame in progress is discarded with LINK_FAULT (R159). In HUNT and during a start the timer does not
run. -/
def execGapTimerExpiry (s : State) : Host.Outcome State Fault Refusal :=
  .next
    (if s.listening ∧ s.link.receiver ≠ .hunt then (s.receive .hunt).offer .linkFault 2 0 else s)

/-- REQUEST_HANDOFF (R164). -/
def execRequestHandoff (s : State) : Host.Outcome State Fault Refusal :=
  .next s.handOff

/-- The frame of a reply on the line (R157, R173). -/
def Reply.frameBytes (r : Reply) : List Byte :=
  let body := frameBody r.tag r.result.code r.payload
  Config.replySof :: (body ++ [checkByte body])

/-- REPLY_TRANSMITTED: the front reply has been sent, and its place is freed (R168). After RESTART's reply the warm start is
due, and no reply behind it is transmitted (R171). -/
def execReplyTransmitted (s : State) : Host.Outcome State Fault Refusal :=
  match s.link.replies, s.link.restartDue with
  | r :: rest, false =>
      .next (s.setLink { s.link with replies := rest, lastFrame := r.frameBytes, restartDue := r.restarts })
  | _, _ => .next s

end Sys2Proof.Machine
end

