-- ==== Sys2Proof/Machine/OverrideCommands.lean ====
section
/-! DEFINITION. The meanings of the override stack's requests (R76, R81, R83, R87), of the schedule's SHOW and CLEAR_BELOW
hand-offs (R79, R83), and of the stack's part of a second tick (R80). -/

namespace Sys2Proof.Machine

open Sys2Proof

/-- The reply of an accepted SHOW_NOW: outcome, record count, and the evicted page id (R76, R177). -/
def admissionBytes (a : Admission) (count : Nat) : List Byte :=
  match a with
  | .created => [0, byteOf count]
  | .replaced => [1, byteOf count]
  | .evicted page => [2, byteOf count, byteOf page]
  | .refused => []

/-- SHOW_NOW (R76 to R78). -/
def execShowNow (tag page priority : Byte) (duration : Half) (s : State) : Host.Outcome State Fault Refusal :=
  .next (takeRequest ⟨tag, 0x48, page :: priority :: halfBytes duration⟩ (fun s =>
    match readPageId page, readPriority priority with
    | some id, some p =>
        if !s.present id then .no .noSuch
        else
          match s.admitRecord ⟨.host id, id, p, readDuration duration.toNat⟩ with
          | (.refused, _) => .no .noRoom
          | (a, s') => .ok (admissionBytes a s'.stack.records.length) s'.recompute
    | _, _ => .no .badField) s)

/-- CLEAR_OVERRIDE (R81). -/
def execClearOverride (tag page : Byte) (s : State) : Host.Outcome State Fault Refusal :=
  .next (takeRequest ⟨tag, 0x49, [page]⟩ (fun s =>
    match readPageId page with
    | none => .no .badField
    | some id =>
        if s.stack.records.any (·.identity == .host id) then
          .ok [] (s.endOverrides (·.identity == .host id) 2).recompute
        else .no .noSuch) s)

/-- CLEAR_BELOW (R83). -/
def execClearBelow (tag priority : Byte) (s : State) : Host.Outcome State Fault Refusal :=
  .next (takeRequest ⟨tag, 0x4A, [priority]⟩ (fun s =>
    match readPriority priority with
    | some p => .ok [byteOf (s.stack.records.filter fun o => o.priority ≤ p).length] (s.takeClearBelow p)
    | none => .no .badField) s)

/-- The place of the selected record in age order (R87). -/
def OverrideStack.selectedPosition (st : OverrideStack) : Option Nat :=
  match st.selection.record with
  | some id => (List.range st.records.length).find? fun j => (st.records[j]?).map Override.identity == some id
  | none => none

/-- The reply of LIST_OVERRIDES (R87, R177). -/
def overrideListBytes (st : OverrideStack) : List Byte :=
  [byteOf st.records.length, partByte st.selectedPosition] ++ st.records.flatMap overrideBytes

/-- LIST_OVERRIDES (R87). -/
def execListOverrides (tag : Byte) (s : State) : Host.Outcome State Fault Refusal :=
  .next (takeRequest ⟨tag, 0x4B, []⟩ (fun s => .ok (overrideListBytes s.stack) s) s)

/-- SCHEDULE_SHOW: the override stack takes the next firing's SHOW hand-off (R79, R119). -/
def execScheduleShow (slot page priority : Byte) (duration : Half) (s : State) : Host.Outcome State Fault Refusal :=
  .next (s.handDue fun f =>
    f.slot == slot.toNat && f.entry.action == .showPage page.toNat priority.toNat duration.toNat)

/-- SCHEDULE_CLEAR_BELOW: the override stack takes the next firing's CLEAR_BELOW hand-off (R83, R119). -/
def execScheduleClearBelow (priority : Byte) (s : State) : Host.Outcome State Fault Refusal :=
  .next (s.handDue fun f => f.entry.action == .clearBelow priority.toNat)

/-- OVERRIDE_COUNTDOWN: the override stack takes an owed second tick (R80). -/
def execOverrideCountdown (s : State) : Host.Outcome State Fault Refusal :=
  if s.owed.stack = 0 then .next s else .next (s.setOwed s.owed.lessStack).countOverrides

/-- OVERRIDE_EXPIRY: the owed second tick that brings a record's remaining time to 0 (R80). -/
def execOverrideExpiry (s : State) : Host.Outcome State Fault Refusal :=
  if 0 < s.owed.stack ∧ s.stack.records.any Override.expiring = true then
    .next (s.setOwed s.owed.lessStack).countOverrides
  else .next s

end Sys2Proof.Machine
end

