-- ==== Sys2Proof/Machine/PageCommands.lean ====
section
/-! DEFINITION. The meanings of the page store's requests (R4 to R23, R31, R32) and of its part of a second tick (R9). -/

namespace Sys2Proof.Machine

open Sys2Proof

/-- The lowest-numbered FREE draft slot (R6). -/
def PageStore.freeDraft (st : PageStore) : Option (Fin 2) :=
  if st.drafts[0] = .free then some 0 else if st.drafts[1] = .free then some 1 else none

/-- The target of an open draft (R3). -/
def Draft.target : Draft → Option Nat
  | .free => none
  | .editing b _ => some b.target
  | .committing b => some b.target

/-- The content of an accepted OPEN_DRAFT with base BLANK (R6). -/
def DraftBody.blank (target : Nat) : DraftBody := ⟨target, Dots.none, none, FieldList.unused⟩

/-- The content of an accepted OPEN_DRAFT with base COPY (R6). -/
def DraftBody.copyOf (p : Page) : DraftBody := ⟨p.id, p.image, p.mask, p.fields⟩

/-- The content a draft is opened with (R6): none where base is COPY and the page is absent (R5 order 5). -/
def State.draftBase (s : State) (page : Nat) (copy : Bool) : Option DraftBody :=
  if copy then (s.findPage page).map DraftBody.copyOf else some (DraftBody.blank page)

/-- OPEN_DRAFT (R5, R6). -/
def execOpenDraft (tag page base : Byte) (s : State) : Host.Outcome State Fault Refusal :=
  .next (takeRequest ⟨tag, 0x30, [page, base]⟩ (fun s =>
    match readPageId page, readFlag base with
    | some id, some copy =>
        if s.restoring then .no .archiveBusy
        else if s.store.drafts.toList.any (fun d => d.target == some id) then .no .inUse
        else
          match s.store.freeDraft with
          | none => .no .noRoom
          | some d =>
              match s.draftBase id copy with
              | none => .no .noSuch
              | some body => .ok [byteOf d.val] (s.setStore (s.store.setDraft d (.editing body 0)))
    | _, _ => .no .badField) s)

/-- The draft checks of R4, and then what the request does with the draft's content. -/
def State.withDraft (s : State) (draft : Byte) (act : Fin 2 → DraftBody → Taken) : Taken :=
  match readIndex 2 draft with
  | none => .no .badField
  | some d =>
      match s.store.drafts[d] with
      | .free => .no .noSuch
      | .committing _ => .no .wrongState
      | .editing body _ => act d body

/-- An accepted edit: the draft takes the content, its idle count restarts, and the dirty flag is set (R4). -/
def State.editDraft (s : State) (d : Fin 2) (body : DraftBody) : Taken :=
  .ok [] (s.setStore (s.store.setDraft d (.editing body 0))).markDirty

/-- WRITE_DOTS (R7). -/
def execWriteDots (tag draft offset : Byte) (bytes : List Byte) (s : State) : Host.Outcome State Fault Refusal :=
  .next (takeRequest ⟨tag, 0x31, draft :: offset :: bytes⟩ (fun s =>
    s.withDraft draft fun d body =>
      if 48 < offset.toNat + bytes.length then .no .badField
      else s.editDraft d { body with image := Dots.write body.image offset.toNat bytes }) s)

/-- The blink mask after a WRITE_BLINK, when R8 accepts it: no byte removes the mask, and others are written into the mask
present or into one created with no dot. -/
def blinkMaskAfter (mask : Option Dots) (offset : Nat) (bytes : List Byte) : Option (Option Dots) :=
  if bytes.isEmpty then (if offset = 0 then some none else none)
  else if 48 < offset + bytes.length then none
  else some (some (Dots.write (mask.getD Dots.none) offset bytes))

/-- WRITE_BLINK (R8). -/
def execWriteBlink (tag draft offset : Byte) (bytes : List Byte) (s : State) : Host.Outcome State Fault Refusal :=
  .next (takeRequest ⟨tag, 0x32, draft :: offset :: bytes⟩ (fun s =>
    s.withDraft draft fun d body =>
      match blinkMaskAfter body.mask offset.toNat bytes with
      | some mask => s.editDraft d { body with mask := mask }
      | none => .no .badField) s)

/-- BIND_FIELD (R31). -/
def execBindField (tag draft index source register first count options : Byte) (s : State) :
    Host.Outcome State Fault Refusal :=
  .next (takeRequest ⟨tag, 0x33, [draft, index, source, register, first, count, options]⟩ (fun s =>
    s.withDraft draft fun d body =>
      match readIndex 4 index, readBinding source register first count options with
      | some i, some b => s.editDraft d { body with fields := body.fields.set i (some b) }
      | _, _ => .no .badField) s)

/-- UNBIND_FIELD (R32). -/
def execUnbindField (tag draft index : Byte) (s : State) : Host.Outcome State Fault Refusal :=
  .next (takeRequest ⟨tag, 0x34, [draft, index]⟩ (fun s =>
    s.withDraft draft fun d body =>
      match readIndex 4 index with
      | some i => s.editDraft d { body with fields := body.fields.set i none }
      | none => .no .badField) s)

/-- The first undefined cell a field list binds: indices ascending, cells left to right (R12 check 1). -/
def firstUndefinedCell (table : Vector (Option Cell) 16) (fields : FieldList) : Option Nat :=
  (fields.bound.flatMap fun b => (List.range b.count).map (b.first + ·)).find? fun i =>
    match table[i]? with
    | some (some _) => false
    | _ => true

/-- Pending commits of new ids (R2, R12 check 2). -/
def PageStore.pendingNew (st : PageStore) : Nat := (st.commits.filter PendingCommit.isNew).length

/-- COMMIT (R12, R13). -/
def execCommit (tag draft : Byte) (s : State) : Host.Outcome State Fault Refusal :=
  .next (takeRequest ⟨tag, 0x35, [draft]⟩ (fun s =>
    s.withDraft draft fun d body =>
      match firstUndefinedCell s.cells.table body.fields with
      | some i => .refused .noSuch [byteOf i]
      | none =>
          let isNew := !s.present body.target
          if isNew ∧ Config.maxPages < s.store.pages.length + s.store.pendingNew + 1 then .no .noRoom
          else if s.archiveBusy then .no .archiveBusy
          else
            .deferred (s.setStore
              { s.store.setDraft d (.committing body) with commits := s.store.commits ++ [⟨d, isNew, tag⟩] })) s)

/-- ABANDON (R11). -/
def execAbandon (tag draft : Byte) (s : State) : Host.Outcome State Fault Refusal :=
  .next (takeRequest ⟨tag, 0x36, [draft]⟩ (fun s =>
    s.withDraft draft fun d _ => .ok [] (s.setStore (s.store.setDraft d .free))) s)

/-- A pending commit names the page id (R18 order 3). -/
def PageStore.pendingNames (st : PageStore) (id : Nat) : Bool :=
  st.drafts.toList.any fun d => match d with
    | .committing b => b.target == id
    | _ => false

/-- The removal of a page with both reactions to its notice and the selection's recomputation (R19, R70, R82). -/
def State.removePage (s : State) (id : Nat) : State :=
  let s1 := (s.setStore { s.store with pages := s.store.pages.filter (·.id != id) }).markDirty
  ((s1.endOverrides (·.page == id) 3).rotationPageGone id).recompute

/-- DELETE_PAGE (R18, R19). -/
def execDeletePage (tag page : Byte) (s : State) : Host.Outcome State Fault Refusal :=
  .next (takeRequest ⟨tag, 0x37, [page]⟩ (fun s =>
    match readPageId page with
    | none => .no .badField
    | some id =>
        if !s.present id then .no .noSuch
        else if s.store.pendingNames id then .no .wrongState
        else if s.archiveBusy then .no .archiveBusy
        else .ok [] (s.removePage id)) s)

/-- The reply of LIST_PAGES (R21, R177). -/
def pageListBytes (pages : List Page) : List Byte :=
  byteOf pages.length :: pages.flatMap fun p => [byteOf p.id, byteOf p.version]

/-- LIST_PAGES (R21). -/
def execListPages (tag : Byte) (s : State) : Host.Outcome State Fault Refusal :=
  .next (takeRequest ⟨tag, 0x38, []⟩ (fun s => .ok (pageListBytes s.store.pages) s) s)

/-- Seven bytes of a bound index (R23, R177). -/
def bindingBytes (p : Page) (i : Fin 4) : List Byte :=
  match p.fields[i] with
  | some b =>
      [byteOf i.val, byteOf b.source.code, byteOf b.register, byteOf b.first, byteOf b.count, optionsByte b,
        flagByte p.latches[i]]
  | none => []

/-- The reply of READ_PAGE for a part: 0 IMAGE, 1 BLINK, 2 FIELDS (R22, R23, R177). -/
def pagePartBytes (p : Page) (part offset : Nat) : List Byte :=
  match part with
  | 0 => [byteOf p.version, flagByte p.mask.isSome] ++ Dots.bytesFrom p.image offset
  | 1 =>
      [byteOf p.version, flagByte p.mask.isSome]
        ++ (match p.mask with
            | some m => Dots.bytesFrom m offset
            | none => [])
  | _ => byteOf p.version :: (bindingBytes p 0 ++ bindingBytes p 1 ++ bindingBytes p 2 ++ bindingBytes p 3)

/-- READ_PAGE (R22, R23). -/
def execReadPage (tag page part offset : Byte) (s : State) : Host.Outcome State Fault Refusal :=
  .next (takeRequest ⟨tag, 0x39, [page, part, offset]⟩ (fun s =>
    match readPageId page with
    | none => .no .badField
    | some id =>
        if 2 < part.toNat ∨ 47 < offset.toNat ∨ (part.toNat = 2 ∧ offset.toNat ≠ 0) then .no .badField
        else
          match s.findPage id with
          | none => .no .noSuch
          | some p => .ok (pagePartBytes p part.toNat offset.toNat) s) s)

/-- DRAFT_IDLE_COUNT: the page store takes an owed second tick (R9). -/
def execDraftIdleCount (s : State) : Host.Outcome State Fault Refusal :=
  if s.owed.store = 0 then .next s else .next (s.setOwed s.owed.lessStore).countDrafts

/-- A draft the next second tick brings to 10 (R9). -/
def Draft.expiring : Draft → Bool
  | .editing _ idle => Config.draftIdleLimit ≤ idle + 1
  | _ => false

/-- DRAFT_EXPIRY: the owed second tick that brings a draft's idle count to 10 (R9). -/
def execDraftExpiry (s : State) : Host.Outcome State Fault Refusal :=
  if 0 < s.owed.store ∧ s.store.drafts.toList.any Draft.expiring = true then
    .next (s.setOwed s.owed.lessStore).countDrafts
  else .next s

end Sys2Proof.Machine
end

