-- ==== Sys2Proof/Machine/ReportRequests.lean ====
section
/-! DEFINITION. The meanings of the report queue's requests (R149, R151, R152). -/

namespace Sys2Proof.Machine

open Sys2Proof

/-- The queue after a fetch of `n` records: they leave from the front, LOST is cleared and ATTN re-examined (R149, R153). -/
def ReportQueue.fetch (q : ReportQueue) (n : Nat) : ReportQueue :=
  ({ q with records := q.records.drop n, lost := false } : ReportQueue).examineAttn

/-- The fetch's reply: n, LOST as read, and the records taken (R149, R177). -/
def fetchPayload (q : ReportQueue) (max : Nat) : List Byte :=
  [byteOf (min max q.records.length), flagByte q.lost] ++ (q.records.take max).flatMap reportBytes

/-- FETCH_REPORTS (R149). -/
def execFetchReports (tag max : Byte) (s : State) : Host.Outcome State Fault Refusal :=
  .next (takeRequest ⟨tag, 0x08, [max]⟩ (fun s =>
    if 1 ≤ max.toNat ∧ max.toNat ≤ 8 then
      .ok (fetchPayload s.reports max.toNat) (s.setReports (s.reports.fetch max.toNat))
    else .no .badField) s)

/-- SET_REPORT_MASK: every value is accepted, and the mask now in force is the reply (R151, R177). -/
def execSetReportMask (tag : Byte) (mask : Half) (s : State) : Host.Outcome State Fault Refusal :=
  .next (takeRequest ⟨tag, 0x09, halfBytes mask⟩ (fun s =>
    .ok (halfBytes mask) (s.setReports { s.reports with mask := mask })) s)

/-- SET_ATTN: the enable is written and ATTN re-examined (R152, R153). -/
def execSetAttn (tag enable : Byte) (s : State) : Host.Outcome State Fault Refusal :=
  .next (takeRequest ⟨tag, 0x0A, [enable]⟩ (fun s =>
    match readFlag enable with
    | some e => .ok [] (s.setReports ({ s.reports with attnEnable := e } : ReportQueue).examineAttn)
    | none => .no .badField) s)

end Sys2Proof.Machine
end

