-- ==== Sys2Proof/Machine/RotationCommands.lean ====
section
/-! DEFINITION. The meanings of the rotation's requests (R63 to R65, R69), of the schedule's SELECT hand-off (R65), and of the
rotation's part of a second tick (R66, R67). -/

namespace Sys2Proof.Machine

open Sys2Proof

/-- SET_LIST (R63). -/
def execSetList (tag list wrap : Byte) (steps : List (Byte × Byte)) (s : State) : Host.Outcome State Fault Refusal :=
  .next (takeRequest ⟨tag, 0x40, list :: wrap :: pairBytes steps⟩ (fun s =>
    match readIndex 4 list, readFlag wrap, steps.mapM readStep with
    | some l, some w, some ss =>
        if s.archiveBusy then .no .archiveBusy
        else
          let s1 := (s.setRotation { s.rotation with lists := s.rotation.lists.set l ⟨ss, w⟩ }).markDirty
          .ok [] (if s.rotation.active = l then s1.reseatAndOffer l else s1)
    | _, _, _ => .no .badField) s)

/-- The reply of GET_LIST (R64, R177). -/
def listBytes (l : RotationList) : List Byte :=
  [flagByte l.wrapFlag, byteOf l.steps.length] ++ l.steps.flatMap fun step => [byteOf step.page, byteOf step.dwell]

/-- GET_LIST (R64). -/
def execGetList (tag list : Byte) (s : State) : Host.Outcome State Fault Refusal :=
  .next (takeRequest ⟨tag, 0x41, [list]⟩ (fun s =>
    match readIndex 4 list with
    | some l => .ok (listBytes s.rotation.lists[l]) s
    | none => .no .badField) s)

/-- The reply of SELECT_LIST (R65, R177). -/
def seatBytes (r : Rotation) : List Byte := [byteOf r.state.code, partByte (r.seat.map Seat.cursor)]

/-- SELECT_LIST (R65). -/
def execSelectList (tag list : Byte) (s : State) : Host.Outcome State Fault Refusal :=
  .next (takeRequest ⟨tag, 0x42, [list]⟩ (fun s =>
    match readIndex 4 list with
    | some l => .ok (seatBytes (s.reseatAndOffer l).rotation) (s.reseatAndOffer l)
    | none => .no .badField) s)

/-- PAUSE_ROTATION (R69). -/
def execPauseRotation (tag : Byte) (s : State) : Host.Outcome State Fault Refusal :=
  .next (takeRequest ⟨tag, 0x43, []⟩ (fun s => .ok [] (s.setRotation { s.rotation with paused := true })) s)

/-- RESUME_ROTATION (R69). -/
def execResumeRotation (tag : Byte) (s : State) : Host.Outcome State Fault Refusal :=
  .next (takeRequest ⟨tag, 0x44, []⟩ (fun s => .ok [] (s.setRotation { s.rotation with paused := false })) s)

/-- SCHEDULE_SELECT: the rotation takes the next firing's SELECT hand-off (R65, R119). -/
def execScheduleSelect (list : Byte) (s : State) : Host.Outcome State Fault Refusal :=
  .next (s.handDue fun f => match f.entry.action with
    | .selectList l => l.val == list.toNat
    | _ => false)

/-- DWELL_COUNT: the rotation takes an owed second tick (R66). -/
def execDwellCount (s : State) : Host.Outcome State Fault Refusal :=
  if s.owed.rotation = 0 then .next s else .next (s.setOwed s.owed.lessRotation).countDwell

/-- ROTATION_ADVANCE: the owed second tick that ends the dwell of a RUNNING rotation (R67). -/
def execRotationAdvance (s : State) : Host.Outcome State Fault Refusal :=
  match s.rotation.seat with
  | some seat =>
      if 0 < s.owed.rotation ∧ s.rotation.paused = false ∧ seat.remaining ≤ 1 then
        .next (s.setOwed s.owed.lessRotation).countDwell
      else .next s
  | none => .next s

end Sys2Proof.Machine
end

