-- ==== Sys2Proof/Machine/ScheduleCommands.lean ====
section
/-! DEFINITION. The meanings of the schedule's requests (R112 to R117), of the minute start (R119), and of the DISPLAY hand-off
(R47). The schedule takes a minute start whole before a slot request (R125): a slot request that is accepted completes an
unfinished walk first, and one that is refused leaves it (R167). -/

namespace Sys2Proof.Machine

open Sys2Proof

/-- A slot takes a new state, and the dirty flag is set (R114 to R116). -/
def State.putSlot (s : State) (i : Fin 32) (x : Slot) : State :=
  (s.setSchedule { s.schedule with slots := s.schedule.slots.set i x }).markDirty

/-- SET_ENTRY (R112, R114). -/
def execSetEntry (tag slot minute hour day weekdays month flags action arg1 arg2 : Byte) (duration : Half) (s : State) :
    Host.Outcome State Fault Refusal :=
  .next (takeRequest
    ⟨tag, 0x50, [slot, minute, hour, day, weekdays, month, flags, action, arg1, arg2] ++ halfBytes duration⟩ (afterWalk fun s =>
    match readIndex 32 slot, readEntry minute hour day weekdays month flags action arg1 arg2 duration with
    | some i, some e => if s.archiveBusy then .no .archiveBusy else .ok [] (s.putSlot i (.holds .armed e))
    | _, _ => .no .badField) s)

/-- CLEAR_ENTRY (R115). -/
def execClearEntry (tag slot : Byte) (s : State) : Host.Outcome State Fault Refusal :=
  .next (takeRequest ⟨tag, 0x51, [slot]⟩ (afterWalk fun s =>
    match readIndex 32 slot with
    | some i => if s.archiveBusy then .no .archiveBusy else .ok [] (s.putSlot i .free)
    | none => .no .badField) s)

/-- ARM_ENTRY and DISARM_ENTRY: the entry of the slot takes an arming (R116). -/
def State.rearm (s : State) (slot : Byte) (arming : Arming) : Taken :=
  match readIndex 32 slot with
  | none => .no .badField
  | some i =>
      if s.archiveBusy then .no .archiveBusy
      else
        match s.schedule.slots[i] with
        | .free => .no .noSuch
        | .holds _ e => .ok [] (s.putSlot i (.holds arming e))

/-- ARM_ENTRY (R116). -/
def execArmEntry (tag slot : Byte) (s : State) : Host.Outcome State Fault Refusal :=
  .next (takeRequest ⟨tag, 0x52, [slot]⟩ (afterWalk fun s => s.rearm slot .armed) s)

/-- DISARM_ENTRY (R116). -/
def execDisarmEntry (tag slot : Byte) (s : State) : Host.Outcome State Fault Refusal :=
  .next (takeRequest ⟨tag, 0x53, [slot]⟩ (afterWalk fun s => s.rearm slot .disarmed) s)

/-- GET_ENTRY (R117). -/
def execGetEntry (tag slot : Byte) (s : State) : Host.Outcome State Fault Refusal :=
  .next (takeRequest ⟨tag, 0x54, [slot]⟩ (afterWalk fun s =>
    match readIndex 32 slot with
    | some i => .ok (slotBytes s.schedule.slots[i]) s
    | none => .no .badField) s)

/-- MINUTE_START: the schedule takes the minute start handed to it and fires every ARMED matching entry in ascending slot
order (R119); of a walk begun by a hand-off it fires what is left. While the calendar is not RUNNING no entry fires (R126). -/
def execMinuteStart (s : State) : Host.Outcome State Fault Refusal :=
  .next s.takeMinute

/-- SCHEDULE_DISPLAY: the frame engine takes the next firing's DISPLAY hand-off (R47, R119). -/
def execScheduleDisplay (mode : Byte) (s : State) : Host.Outcome State Fault Refusal :=
  .next (s.handDue fun f => match f.entry.action with
    | .display m => m.code == mode.toNat
    | _ => false)

end Sys2Proof.Machine
end

