-- ==== Sys2Proof/Machine/StartCommands.lean ====
section
/-! DEFINITION. The meanings of the starts: power-on, the fall and release of RESETN, the warm start a RESTART causes, and the
end of start-up with the start-up restore (R24, R58, R73, R84, R108, R142, R143, R154, R155, R172). -/

namespace Sys2Proof.Machine

open Sys2Proof

/-- What every start does to the live state when it begins: the page store and the stack are empty, the rotation has no seat,
the value registers hold 0, the report queue is empty with ATTN released, the archive operation is abandoned, sync is off,
the lines are at ground and the link is emptied. -/
def State.clearLive (s : State) (phase : Phase) : State :=
  { s with
    phase := phase
    store := { pages := [], drafts := Vector.replicate 2 .free, commits := [] }
    cells := { s.cells with values := Vector.replicate 8 0 }
    frame := { s.frame with latched := Selection.blank, drive := .ground }
    rotation := { s.rotation with seat := none, paused := false }
    stack := { records := [], selection := Selection.blank }
    calendar := { s.calendar with sync := false }
    schedule := { s.schedule with minuteStarts := [], walk := [] }
    archive := { s.archive with op := .none }
    reports := { s.reports with records := [], lost := false, attnLow := false }
    link :=
      { s.link with
        receiver := .hunt, unanswered := [], inbox := [], handed := none, replies := [], restartDue := false
        lastFrame := [] }
    owed := { s.owed with rotation := 0, stack := 0, store := 0 } }

/-- POWER_ON: a cold start (R154). The link samples BAUD (R156), the prescaler starts on the internal oscillator (R95, R108),
and nothing but the banks' contents is kept. With RESETN low the start lasts until its release. -/
def execPowerOn (baudHigh resetnHigh : Bool) (s : State) : Host.Outcome State Fault Refusal :=
  let cold := State.reset.clearLive (if resetnHigh then .starting .powerOn else .resetHeld .powerOn)
  .next
    { cold with
      archive := { cold.archive with bankA := s.archive.bankA, bankB := s.archive.bankB }
      link := { cold.link with speed := if baudHigh then .baud115200 else .baud19200 }
      pending := s.pending }

/-- RESETN_FALL: a warm start caused by RESETN begins, also out of another start's interval (R154, R172). RESETN that is low
already does not fall. -/
def execResetnFall (s : State) : Host.Outcome State Fault Refusal :=
  match s.phase with
  | .resetHeld _ => .next s
  | _ => .next (s.clearLive (.resetHeld .resetn))

/-- The instant of reset release: a HELD calendar runs with a prescaler restart (R108). -/
def State.releaseAtStart (s : State) : State :=
  match s.calendar.state with
  | .held _ => s.releaseHold
  | _ => s

/-- RESETN_RELEASE: the start-up interval begins (R108, R172). -/
def execResetnRelease (s : State) : Host.Outcome State Fault Refusal :=
  match s.phase with
  | .resetHeld cause => .next (s.releaseAtStart.setPhase (.starting cause))
  | _ => .next s

/-- WARM_START_BY_RESTART: once RESTART's reply has been transmitted, a warm start begins, and that instant is its reset
release (R108, R171, R172). -/
def execWarmStartByRestart (s : State) : Host.Outcome State Fault Refusal :=
  if s.listening ∧ s.link.restartDue then .next (s.clearLive (.starting .restart)).releaseAtStart else .next s

/-- The outcomes of a start-up restore: the details of STARTED (R142). -/
inductive RestoreOutcome where
  | restored
  | fallback
  | empty
deriving DecidableEq, Repr

/-- The details of STARTED: 0 RESTORED, 1 FALLBACK, 2 EMPTY (R142). -/
def RestoreOutcome.code : RestoreOutcome → Nat
  | .restored => 0
  | .fallback => 1
  | .empty => 2

/-- The start-up check sets both validity records (R142 step 1). -/
def Archive.checkBanks (a : Archive) : Archive := { a with recordA := a.bankA.checked, recordB := a.bankB.checked }

/-- A bank's image, whether or not its check passes. -/
def BankContent.image : BankContent → Option Collections
  | .marked _ image _ => some image
  | .unmarked => none

/-- The image a start-up restore installs: the current bank's (R142 step 2). The records are those of the check. -/
def Archive.startImage (a : Archive) : Option Collections :=
  match a.current with
  | some (bank, _) => (a.content bank).image
  | none => none

/-- The outcome of the start-up restore (R142). The records are those of the check. -/
def Archive.startOutcome (a : Archive) : RestoreOutcome :=
  match a.current with
  | none => .empty
  | some (bank, n) =>
      match (a.content (otherBank bank)).damaged with
      | some m => if n < m then .fallback else .restored
      | none => .restored

/-- The start-up restore (R142): both banks checked, and the current bank's image or the factory defaults installed, with the
dirty flag cleared or set. -/
def State.startupRestore (s : State) : State :=
  let s1 := s.setArchive s.archive.checkBanks
  match s1.archive.startImage with
  | some image => let s2 := s1.install image; s2.setArchive { s2.archive with dirty := false }
  | none => let s2 := s1.install Collections.factory; s2.setArchive { s2.archive with dirty := true }

/-- The live settings take their values from the startup record in force (R45, R151, R152). -/
def State.applyStartup (s : State) : State :=
  let r := s.archive.startup
  (s.setFrame { s.frame with display := ⟨r.mode, false, r.contrast, 0xFF⟩ }).setReports
    { s.reports with mask := r.mask, attnEnable := r.attn }

/-- The reports held aside are settled in the order first offered, stamped by the calendar as it stands (R155). -/
def ReportQueue.settleAside (q : ReportQueue) (stamp : Option Stamp) : List Report → ReportQueue
  | [] => q
  | r :: rest => ReportQueue.settleAside (q.settle stamp r.kind r.subject r.detail r.count) stamp rest

/-- STARTED is queued first, and the reports held aside follow it (R154, R155). -/
def State.queueStarted (s : State) (cause : Cause) (outcome : RestoreOutcome) : State :=
  let q := ({ s.reports with records := [], lost := false, aside := [] } : ReportQueue).settle s.calendar.stamp .started
    cause.code outcome.code 1
  s.setReports (q.settleAside s.calendar.stamp s.reports.aside)

/-- STARTUP_COMPLETE: the start-up restore, the live settings, STARTED and the reports held aside, and the rotation's re-seat on
the start list; the link begins to listen (R73, R142, R154, R155, R172). -/
def execStartupComplete (s : State) : Host.Outcome State Fault Refusal :=
  match s.phase with
  | .starting cause =>
      let s1 := s.startupRestore.applyStartup
      let s2 := (s1.queueStarted cause s1.archive.startOutcome).setPhase .listening
      .next (s2.reseatAndOffer s2.archive.startup.list)
  | _ => .next s

end Sys2Proof.Machine
end

