-- ==== Sys2Proof/Machine/Dispatch.lean ====
section
/-! DEFINITION. The dispatch of a command to its meaning: one arm per constructor of Instr. -/

namespace Sys2Proof.Machine

open Sys2Proof

def exec (i : Instr) (s : State) : Host.Outcome State Fault Refusal :=
  match i with
  | .ping tag bytes => Sys2Proof.Machine.execPing tag bytes s
  | .identify tag => Sys2Proof.Machine.execIdentify tag s
  | .status tag => Sys2Proof.Machine.execStatus tag s
  | .restart tag => Sys2Proof.Machine.execRestart tag s
  | .fetchReports tag max => Sys2Proof.Machine.execFetchReports tag max s
  | .setReportMask tag mask => Sys2Proof.Machine.execSetReportMask tag mask s
  | .setAttn tag enable => Sys2Proof.Machine.execSetAttn tag enable s
  | .setTime tag year month day hour minute second hold => Sys2Proof.Machine.execSetTime tag year month day hour minute second hold s
  | .releaseTime tag => Sys2Proof.Machine.execReleaseTime tag s
  | .getTime tag => Sys2Proof.Machine.execGetTime tag s
  | .setSync tag enable => Sys2Proof.Machine.execSetSync tag enable s
  | .setGlass tag duty rate => Sys2Proof.Machine.execSetGlass tag duty rate s
  | .setDisplay tag mode invert contrast rowMask => Sys2Proof.Machine.execSetDisplay tag mode invert contrast rowMask s
  | .getDisplay tag => Sys2Proof.Machine.execGetDisplay tag s
  | .setCell tag cell refs => Sys2Proof.Machine.execSetCell tag cell refs s
  | .clearCell tag cell => Sys2Proof.Machine.execClearCell tag cell s
  | .getCell tag cell => Sys2Proof.Machine.execGetCell tag cell s
  | .setValue tag register value => Sys2Proof.Machine.execSetValue tag register value s
  | .addValue tag register delta => Sys2Proof.Machine.execAddValue tag register delta s
  | .getValue tag register => Sys2Proof.Machine.execGetValue tag register s
  | .openDraft tag page base => Sys2Proof.Machine.execOpenDraft tag page base s
  | .writeDots tag draft offset bytes => Sys2Proof.Machine.execWriteDots tag draft offset bytes s
  | .writeBlink tag draft offset bytes => Sys2Proof.Machine.execWriteBlink tag draft offset bytes s
  | .bindField tag draft index source register first count options => Sys2Proof.Machine.execBindField tag draft index source register first count options s
  | .unbindField tag draft index => Sys2Proof.Machine.execUnbindField tag draft index s
  | .commit tag draft => Sys2Proof.Machine.execCommit tag draft s
  | .abandon tag draft => Sys2Proof.Machine.execAbandon tag draft s
  | .deletePage tag page => Sys2Proof.Machine.execDeletePage tag page s
  | .listPages tag => Sys2Proof.Machine.execListPages tag s
  | .readPage tag page part offset => Sys2Proof.Machine.execReadPage tag page part offset s
  | .setList tag list wrap steps => Sys2Proof.Machine.execSetList tag list wrap steps s
  | .getList tag list => Sys2Proof.Machine.execGetList tag list s
  | .selectList tag list => Sys2Proof.Machine.execSelectList tag list s
  | .pauseRotation tag => Sys2Proof.Machine.execPauseRotation tag s
  | .resumeRotation tag => Sys2Proof.Machine.execResumeRotation tag s
  | .showNow tag page priority duration => Sys2Proof.Machine.execShowNow tag page priority duration s
  | .clearOverride tag page => Sys2Proof.Machine.execClearOverride tag page s
  | .clearBelow tag priority => Sys2Proof.Machine.execClearBelow tag priority s
  | .listOverrides tag => Sys2Proof.Machine.execListOverrides tag s
  | .setEntry tag slot minute hour day weekdays month flags action arg1 arg2 duration => Sys2Proof.Machine.execSetEntry tag slot minute hour day weekdays month flags action arg1 arg2 duration s
  | .clearEntry tag slot => Sys2Proof.Machine.execClearEntry tag slot s
  | .armEntry tag slot => Sys2Proof.Machine.execArmEntry tag slot s
  | .disarmEntry tag slot => Sys2Proof.Machine.execDisarmEntry tag slot s
  | .getEntry tag slot => Sys2Proof.Machine.execGetEntry tag slot s
  | .save tag => Sys2Proof.Machine.execSave tag s
  | .restore tag => Sys2Proof.Machine.execRestore tag s
  | .archiveInfo tag => Sys2Proof.Machine.execArchiveInfo tag s
  | .setStartup tag list mode contrast mask attn => Sys2Proof.Machine.execSetStartup tag list mode contrast mask attn s
  | .byteReceived byte stopBit => Sys2Proof.Machine.execByteReceived byte stopBit s
  | .gapTimerExpiry => Sys2Proof.Machine.execGapTimerExpiry s
  | .requestHandoff => Sys2Proof.Machine.execRequestHandoff s
  | .replyTransmitted => Sys2Proof.Machine.execReplyTransmitted s
  | .warmStartByRestart => Sys2Proof.Machine.execWarmStartByRestart s
  | .powerOn baudHigh resetnHigh => Sys2Proof.Machine.execPowerOn baudHigh resetnHigh s
  | .resetnFall => Sys2Proof.Machine.execResetnFall s
  | .resetnRelease => Sys2Proof.Machine.execResetnRelease s
  | .startupComplete => Sys2Proof.Machine.execStartupComplete s
  | .syncFallingEdge => Sys2Proof.Machine.execSyncFallingEdge s
  | .crystalStopped => Sys2Proof.Machine.execCrystalStopped s
  | .crystalResumed => Sys2Proof.Machine.execCrystalResumed s
  | .secondTick => Sys2Proof.Machine.execSecondTick s
  | .halfSecondTick whole => Sys2Proof.Machine.execHalfSecondTick whole s
  | .calendarSecondCount => Sys2Proof.Machine.execCalendarSecondCount s
  | .minuteStart => Sys2Proof.Machine.execMinuteStart s
  | .scheduleShow slot page priority duration => Sys2Proof.Machine.execScheduleShow slot page priority duration s
  | .scheduleSelect list => Sys2Proof.Machine.execScheduleSelect list s
  | .scheduleClearBelow priority => Sys2Proof.Machine.execScheduleClearBelow priority s
  | .scheduleDisplay mode => Sys2Proof.Machine.execScheduleDisplay mode s
  | .dwellCount => Sys2Proof.Machine.execDwellCount s
  | .rotationAdvance => Sys2Proof.Machine.execRotationAdvance s
  | .overrideCountdown => Sys2Proof.Machine.execOverrideCountdown s
  | .overrideExpiry => Sys2Proof.Machine.execOverrideExpiry s
  | .draftIdleCount => Sys2Proof.Machine.execDraftIdleCount s
  | .draftExpiry => Sys2Proof.Machine.execDraftExpiry s
  | .holdTimerCount => Sys2Proof.Machine.execHoldTimerCount s
  | .holdExpiry => Sys2Proof.Machine.execHoldExpiry s
  | .frameBoundary => Sys2Proof.Machine.execFrameBoundary s
  | .saveEnd verified => Sys2Proof.Machine.execSaveEnd verified s
  | .restoreComplete => Sys2Proof.Machine.execRestoreComplete s
  | .bankDamaged bank sequence => Sys2Proof.Machine.execBankDamaged bank sequence s

end Sys2Proof.Machine
end

