-- ==== Sys2Proof/Safety.lean ====
section
/-! DEFINITION. The laws of the part's state that every step keeps: the bounds, the agreements between blocks and the legal
values that the manual states block by block. -/

namespace Sys2Proof.Machine

open Sys2Proof

/-! ## Legal values of the stored collections (R129) -/

/-- A page id is 1–254 (R1). -/
def idOk (id : Nat) : Prop := 1 ≤ id ∧ id ≤ 254

/-- The duty is 1–8 (R42). -/
def Glass.Ok (g : Glass) : Prop := 1 ≤ g.duty ∧ g.duty ≤ 8

/-- At least one of the references a–g of a defined cell is present (R25). -/
def cellTableOk (t : Vector (Option Cell) 16) : Prop :=
  ∀ c ∈ t.toList.filterMap id, (c.toList.take 7).any Option.isSome = true

/-- The field values of a binding (R30). -/
def Binding.Ok (b : Binding) : Prop :=
  1 ≤ b.count ∧ b.count ≤ 6 ∧ b.first + b.count ≤ 16 ∧ b.register ≤ 7 ∧ b.point ≤ b.count ∧
    (b.source ≠ .value → b.count = 4 ∧ b.register = 0)

/-- Every bound index of a field list holds a legal binding (R30). -/
def FieldList.Ok (f : FieldList) : Prop := ∀ b ∈ f.bound, b.Ok

/-- Every cell that a field list binds is defined (R25). -/
def FieldList.CellsDefined (f : FieldList) (table : Vector (Option Cell) 16) : Prop := firstUndefinedCell table f = none

/-- The values of a page record (R1); an unused index has no set latch. -/
def Page.Ok (p : Page) : Prop :=
  idOk p.id ∧ p.version ≤ 255 ∧ p.fields.Ok ∧ ∀ i : Fin 4, p.fields[i] = none → p.latches[i] = false

/-- At most 24 records, in ascending id without repeats, each legal and binding defined cells alone (R1, R2, R25). -/
def pagesOk (table : Vector (Option Cell) 16) (pages : List Page) : Prop :=
  pages.length ≤ Config.maxPages ∧ pages.Pairwise (·.id < ·.id) ∧ ∀ p ∈ pages, p.Ok ∧ p.fields.CellsDefined table

/-- The values of a rotation list (R59). -/
def RotationList.Ok (l : RotationList) : Prop :=
  l.steps.length ≤ Config.maxSteps ∧ ∀ step ∈ l.steps, idOk step.page ∧ 1 ≤ step.dwell ∧ step.dwell ≤ 255

/-- The values of a day part: a weekday set is not empty (R110). -/
def DayPart.Ok : DayPart → Prop
  | .any => True
  | .dayOfMonth d => 1 ≤ d ∧ d ≤ 31
  | .weekdays set => set ≠ 0

/-- The values of a pattern, which can match (R110, R113). -/
def Pattern.Ok (p : Pattern) : Prop :=
  (∀ m ∈ p.minute, m ≤ 59) ∧ (∀ h ∈ p.hour, h ≤ 23) ∧ p.day.Ok ∧ (∀ m ∈ p.month, 1 ≤ m ∧ m ≤ 12) ∧
    patternCanMatch p = true

/-- The arguments of an action (R111). -/
def Action.Ok : Action → Prop
  | .showPage page priority duration => idOk page ∧ 1 ≤ priority ∧ priority ≤ 7 ∧ duration ≤ 65535
  | .selectList _ => True
  | .clearBelow priority => 1 ≤ priority ∧ priority ≤ 7
  | .display _ => True

/-- The values of an entry (R110, R111). -/
def Entry.Ok (e : Entry) : Prop := e.pattern.Ok ∧ e.action.Ok

/-- A slot holds a legal entry, and a SPENT one is flagged ONCE (R109). -/
def Slot.Ok : Slot → Prop
  | .free => True
  | .holds arming e => e.Ok ∧ (arming = .spent → e.once = true)

/-- The values of the startup record (R130). -/
def StartupRecord.Ok (r : StartupRecord) : Prop := r.contrast ≤ 15

/-- Six stored collections that hold legal values and agree with one another (R129). -/
def Collections.Ok (c : Collections) : Prop :=
  c.glass.Ok ∧ cellTableOk c.cells ∧ pagesOk c.cells c.pages ∧ (∀ l ∈ c.lists.toList, l.Ok) ∧
    (∀ x ∈ c.slots.toList, x.Ok) ∧ c.startup.Ok

/-- The live stored collections are legal (R129). -/
def State.CollectionsOk (s : State) : Prop := s.snapshot.Ok ∧ pagesOk s.cells.table s.store.pages

/-! ## The page store (R1 to R24) -/

/-- The values of an open draft (R3). -/
def Draft.Ok : Draft → Prop
  | .free => True
  | .editing b idle => idOk b.target ∧ b.fields.Ok ∧ idle < Config.draftIdleLimit
  | .committing b => idOk b.target ∧ b.fields.Ok

/-- A draft is COMMITTING (R3). -/
def Draft.isCommitting : Draft → Bool
  | .committing _ => true
  | _ => false

/-- Every cell that the draft of a pending commit binds is defined (R25). -/
def Draft.CellsDefined (d : Draft) (table : Vector (Option Cell) 16) : Prop :=
  match d with
  | .committing b => b.fields.CellsDefined table
  | _ => True

/-- The drafts and the pending-commit list (R2, R3, R13, R25): the targets differ, a draft is COMMITTING exactly when it has an
entry, the entry's decision stays true, its cells are defined, the new ids find room, and no archive operation runs beside. -/
def State.DraftsOk (s : State) : Prop :=
  (∀ d ∈ s.store.drafts.toList, d.Ok) ∧
  (s.store.drafts[0].target = s.store.drafts[1].target → s.store.drafts[0].target = none) ∧
  (s.store.commits.map PendingCommit.draft).Nodup ∧
  (∀ d : Fin 2, s.store.drafts[d].isCommitting = true ↔ d ∈ s.store.commits.map PendingCommit.draft) ∧
  (∀ e ∈ s.store.commits, ∀ id ∈ s.store.drafts[e.draft].target, e.isNew = !s.present id) ∧
  (∀ d ∈ s.store.drafts.toList, d.CellsDefined s.cells.table) ∧
  s.store.pages.length + s.store.pendingNew ≤ Config.maxPages ∧
  (s.archiveBusy = true → s.store.commits = [])

/-! ## Values, frame engine and calendar -/

/-- Every value register holds a number from −99 999 to 999 999 (R38). -/
def CellUnit.ValuesOk (c : CellUnit) : Prop :=
  ∀ v ∈ c.values.toList, Config.minValue ≤ v ∧ v ≤ Config.maxValue

/-- The contrast is 0–15, and the next boundary lies at a whole number of frame periods within the second (R45, R49). -/
def FrameEngine.Ok (f : FrameEngine) : Prop :=
  f.display.contrast ≤ 15 ∧ 1 ≤ f.nextBoundary ∧ f.nextBoundary ≤ Config.secondCounts ∧
    f.nextBoundary % f.rate.period = 0

/-- A valid date and time with the weekday of that date (R96). -/
def CalendarFields.Ok (f : CalendarFields) : Prop :=
  2000 ≤ f.year ∧ f.year ≤ 2099 ∧ 1 ≤ f.month ∧ f.month ≤ 12 ∧ 1 ≤ f.day ∧ f.day ≤ monthLength f.year f.month ∧
    f.hour ≤ 23 ∧ f.minute ≤ 59 ∧ f.second ≤ 59 ∧ f.weekday = weekdayOf f.year f.month f.day

/-- The calendar holds a valid date and time, is HELD or RUNNING only while the crystal is declared running, and a hold ends
before its timer reaches 2 (R94, R96, R104). -/
def Calendar.Ok (c : Calendar) : Prop :=
  c.fields.Ok ∧ c.prescaler < Config.secondCounts ∧
    match c.state with
    | .invalid => True
    | .running => c.crystal = .running
    | .held timer => c.crystal = .running ∧ timer < Config.holdLimit

/-! ## Rotation, override stack and selection -/

/-- The rotation's seat (R60): the cursor's step names a present page with 1 to its dwell left, and without a seat no step of
the active list names a present page. -/
def State.SeatOk (s : State) : Prop :=
  match s.rotation.seat with
  | some seat =>
      ∃ step, s.rotation.activeList.steps[seat.cursor]? = some step ∧ s.present step.page = true ∧
        1 ≤ seat.remaining ∧ seat.remaining ≤ step.dwell
  | none => ∀ step ∈ s.rotation.activeList.steps, s.present step.page = false

/-- The values of an override record (R74). -/
def Override.Ok (o : Override) : Prop :=
  idOk o.page ∧ 1 ≤ o.priority ∧ o.priority ≤ 7 ∧ (∀ r ∈ o.remaining, 1 ≤ r ∧ r ≤ 65535) ∧
    match o.identity with
    | .schedule slot => slot ≤ 31
    | .host page => page = o.page

/-- The override stack (R75): at most 6 records, no two of one identity, every one legal and naming a present page. -/
def State.StackOk (s : State) : Prop :=
  s.stack.records.length ≤ Config.maxOverrides ∧ (s.stack.records.map Override.identity).Nodup ∧
    ∀ o ∈ s.stack.records, o.Ok ∧ s.present o.page = true

/-- The selection is the one the stack and the rotation give (R88). -/
def State.SelectionOk (s : State) : Prop :=
  s.stack.selection = selectionOf s.stack.records s.rotation.currentPage

/-! ## Schedule and archive -/

/-- The values of a minute start (R97). -/
def MinuteStart.Ok (m : MinuteStart) : Prop :=
  m.minute ≤ 59 ∧ m.hour ≤ 23 ∧ 1 ≤ m.day ∧ m.day ≤ 31 ∧ m.weekday ≤ 6 ∧ 1 ≤ m.month ∧ m.month ≤ 12

/-- The walk of a minute start: ascending slots, each still ARMED with the entry that was read (R119). -/
def Schedule.WalkOk (sc : Schedule) : Prop :=
  (sc.walk.map Firing.slot).Pairwise (· < ·) ∧
    (∀ f ∈ sc.walk, sc.slots[f.slot]? = some (.holds .armed f.entry) ∧ f.start.Ok) ∧ ∀ m ∈ sc.minuteStarts, m.Ok

/-- Minute starts wait, and firings of one are left, only while the calendar is RUNNING in that very minute (R97, R121, R126). -/
def State.MinuteOk (s : State) : Prop :=
  (∀ m ∈ s.schedule.minuteStarts, s.calendar.state = .running ∧ m = s.calendar.fields.minuteStart) ∧
    ∀ f ∈ s.schedule.walk, s.calendar.state = .running ∧ f.start = s.calendar.fields.minuteStart

/-- A sequence number is 1 to 4 294 967 295 (R133). -/
def sequenceOk (n : Nat) : Prop := 1 ≤ n ∧ n ≤ Config.maxSequence

/-- A bank whose image agrees with its check value holds legal collections (R133). -/
def BankContent.Ok : BankContent → Prop
  | .marked n image true => sequenceOk n ∧ image.Ok
  | _ => True

/-- What a bank holds while its record is valid with a number: the image of that number, or a damaged one (R133). -/
def BankContent.Shows (n : Nat) : BankContent → Prop
  | .marked m _ agrees => agrees = true → m = n
  | .unmarked => False

/-- A validity record shows the number of the bank's image, unless the bank has since been damaged (R133). -/
def Archive.RecordOk (a : Archive) (bank : BankId) : Prop :=
  ∀ n ∈ a.record bank, sequenceOk n ∧ (a.content bank).Shows n

/-- The archive's banks and operation (R133 to R140): a save writes a bank without marker and without record a number above the
other bank's, and a restore reads a bank that is valid. -/
def Archive.Ok (a : Archive) : Prop :=
  a.bankA.Ok ∧ a.bankB.Ok ∧ a.RecordOk .a ∧ a.RecordOk .b ∧
  (∀ m ∈ a.recordA, ∀ n ∈ a.recordB, m ≠ n) ∧
  (∀ m ∈ a.bankA.checked, ∀ n ∈ a.bankB.checked, m ≠ n) ∧
  match a.op with
  | .none => True
  | .save target n image _ =>
      sequenceOk n ∧ image.Ok ∧ a.content target = .unmarked ∧ a.record target = none ∧
        (∀ m ∈ a.record (otherBank target), m < n) ∧ ∀ m ∈ (a.content (otherBank target)).checked, m < n
  | .restore bank _ => (a.record bank).isSome = true

/-- Once start-up has ended, a bank whose image agrees with its check value is recorded valid (R133, R142). -/
def State.RecordsComplete (s : State) : Prop :=
  s.phase = .listening →
    (∀ n ∈ s.archive.bankA.checked, s.archive.recordA = some n) ∧
      ∀ n ∈ s.archive.bankB.checked, s.archive.recordB = some n

/-! ## Report queue -/

/-- Records of one queue: no two share kind and subject, and every count is 1–255 (R146). -/
def recordsOk (records : List Report) : Prop :=
  records.Pairwise (fun r q => ¬(r.kind = q.kind ∧ r.subject = q.subject)) ∧
    ∀ r ∈ records, 1 ≤ r.count ∧ r.count ≤ 255

/-- The report queue (R146, R153, R154): at most 16 records, and ATTN low exactly while a record stands and the enable is on;
during a start the queue is empty and ATTN released. -/
def State.ReportsOk (s : State) : Prop :=
  s.reports.records.length ≤ Config.maxReports ∧ recordsOk s.reports.records ∧ recordsOk s.reports.aside ∧
    (s.phase = .listening → s.reports.attnLow = (s.reports.attnEnable && !s.reports.records.isEmpty)) ∧
    (s.phase = .listening → s.reports.aside = [])

/-! ## Link -/

/-- A request the link accepts (R161 checks 1, 4 and 5). -/
def requestOk (r : Request) : Prop :=
  r.tag.toNat ≤ 15 ∧ ∃ l ∈ lengthRule r.code, l.allows r.payload.length = true

/-- The receiver's count agrees with the bytes it holds (R158). -/
def Receiver.Ok : Receiver → Prop
  | .hunt => True
  | .length => True
  | .body len taken due => 2 ≤ len.toNat ∧ len.toNat ≤ 65 ∧ 1 ≤ due ∧ taken.length + due = len.toNat
  | .check len taken => 2 ≤ len.toNat ∧ len.toNat ≤ 65 ∧ taken.length = len.toNat

/-- The tag of the deferred archive request (R165). -/
def ArchiveOp.tags : ArchiveOp → List Byte
  | .none => []
  | .save _ _ _ tag => [tag]
  | .restore _ tag => [tag]

/-- The requests that owe a reply: the inbox, the one handed over, the commits and the archive operation (R162). -/
def State.owedTags (s : State) : List Byte :=
  s.link.inbox.map Request.tag ++ s.link.handed.toList.map Request.tag ++ s.store.commits.map PendingCommit.tag
    ++ s.archive.op.tags

/-- The link (R158, R162, R163, R171): at most four unanswered tags, all different, which are those of the requests that owe a
reply; replies and reserved places never exceed 8; one RESTART reply at most, with nothing handed while it waits. -/
def State.LinkOk (s : State) : Prop :=
  s.link.receiver.Ok ∧ s.link.unanswered.length ≤ Config.maxUnanswered ∧ s.link.unanswered.Nodup ∧
    s.owedTags.Perm s.link.unanswered ∧ (∀ t ∈ s.link.unanswered, t.toNat ≤ 15) ∧
    (∀ r ∈ s.link.inbox ++ s.link.handed.toList, requestOk r) ∧
    s.link.replies.length + s.reservedPlaces ≤ Config.replyPlaces ∧
    (s.link.replies.filter Reply.restarts).length + (if s.link.restartDue then 1 else 0) ≤ 1 ∧
    (s.restartWaits = true → s.link.handed = none)

/-! ## Starts -/

/-- The live state during a start (R24, R58, R73, R84, R108, R143, R154, R172). -/
def State.Cleared (s : State) : Prop :=
  s.store = { pages := [], drafts := Vector.replicate 2 .free, commits := [] } ∧
  s.rotation.seat = none ∧ s.rotation.paused = false ∧ s.stack = { records := [], selection := Selection.blank } ∧
  s.frame.drive = .ground ∧ s.frame.latched = Selection.blank ∧ s.calendar.sync = false ∧
  s.schedule.minuteStarts = [] ∧ s.schedule.walk = [] ∧ s.archive.op = .none ∧
  s.reports.records = [] ∧ s.reports.attnLow = false ∧
  s.link.receiver = .hunt ∧ s.link.unanswered = [] ∧ s.link.inbox = [] ∧ s.link.handed = none ∧
  s.link.replies = [] ∧ s.link.restartDue = false ∧
  s.owed.rotation = 0 ∧ s.owed.stack = 0 ∧ s.owed.store = 0

/-- Outside the listening phase the live state stands cleared, and the reports held aside come from the oscillation monitor and
the calendar (R155). -/
def State.StartOk (s : State) : Prop :=
  s.phase ≠ .listening → s.Cleared ∧ ∀ r ∈ s.reports.aside, r.kind = .clockLost ∨ r.kind = .calendarWrap

/-! ## All of it -/

/-- The law of the state: every law above. -/
structure State.Inv (s : State) : Prop where
  collections : s.CollectionsOk
  drafts : s.DraftsOk
  values : s.cells.ValuesOk
  frame : s.frame.Ok
  calendar : s.calendar.Ok
  seat : s.SeatOk
  stack : s.StackOk
  selection : s.SelectionOk
  walk : s.schedule.WalkOk
  minute : s.MinuteOk
  archive : s.archive.Ok
  records : s.RecordsComplete
  reports : s.ReportsOk
  link : s.LinkOk
  start : s.StartOk

/-! ## Terms that statements about the part use -/

/-- The link has handed this request to its owner, which has not taken it yet (R164). -/
def State.HasHanded (s : State) (c : Instr) : Prop := ∃ r, c.toRequest = some r ∧ s.link.handed = some r

/-- An OK reply (R174). -/
def okReply (tag : Byte) (payload : List Byte) : Reply := ⟨tag, .ok, payload, false⟩

/-- A refusal with no payload (R174). -/
def refusal (tag : Byte) (result : Result) : Reply := ⟨tag, result, [], false⟩

/-- The state once the request handed over has been answered and has changed nothing else: the hand-off's slot is empty, the
tag has left the unanswered set, and the reply stands last in the reply queue (R162, R164, R167). -/
def State.answered (s : State) (r : Reply) : State :=
  s.setLink
    { s.link with handed := none, unanswered := s.link.unanswered.erase r.tag, replies := s.link.replies ++ [r] }

/-- The state once the request handed over has been accepted as deferred: its tag stays unanswered (R165). -/
def State.deferred (s : State) : State := s.setLink { s.link with handed := none }

/-- The date and time of a SET_TIME in range (R99). -/
def TimeInRange (year month day hour minute second : Byte) : Prop :=
  year.toNat ≤ 99 ∧ 1 ≤ month.toNat ∧ month.toNat ≤ 12 ∧ 1 ≤ day.toNat ∧
    day.toNat ≤ monthLength (2000 + year.toNat) month.toNat ∧ hour.toNat ≤ 23 ∧ minute.toNat ≤ 59 ∧ second.toNat ≤ 59

/-- Seconds from 2000-01-01 00:00:00 to a date and time (R96). -/
def CalendarFields.absolute (f : CalendarFields) : Nat :=
  ((dayNumber f.year f.month f.day * 24 + f.hour) * 60 + f.minute) * 60 + f.second

end Sys2Proof.Machine
end

