-- ==== Sys2Proof/Certificates/Slice0/Obligations.lean ====
section
/-! DEFINITION. The statements for the provers, from the numbered rules of spec/. Each is about every state unless it says
otherwise; a request command is stated for the state in which the link has handed that request over (`State.HasHanded`). -/

open Sys2Proof Sys2Proof.Machine

/-! ## The whole part -/

/-- A step takes the command at the front of the queue and runs its meaning with the queue's rest. -/
def Obligations.StepRunsFrontCommand : Prop :=
  ∀ (s : State) (c : Instr) (rest : List Instr), s.pending = c :: rest → step s = exec c (s.setPending rest)

/-- Every command completes in every state, and leaves the queue of waiting commands as it was. -/
def Obligations.CommandsCompleteAndLeaveTheQueue : Prop :=
  ∀ (c : Instr) (s : State), ∃ t, exec c s = .next t ∧ t.pending = s.pending

/-- The state after reset, which the model takes after a completed cold start (log entry 1), meets every law of the state. -/
def Obligations.ResetMeetsTheLaw : Prop := State.reset.Inv

/-- Every step keeps every law of the state. -/
def Obligations.StepKeepsTheLaw : Prop :=
  ∀ s t : State, s.Inv → step s = .next t → t.Inv

/-- Every step keeps the law of the report queue alone, whatever the rest of the state (R146, R153). -/
def Obligations.StepKeepsReportQueueLaw : Prop :=
  ∀ s t : State, s.ReportsOk → step s = .next t → t.ReportsOk

/-- Every step keeps the law of the calendar alone: a valid date and time with its weekday, HELD or RUNNING only with the crystal
declared running (R96). -/
def Obligations.StepKeepsCalendarLaw : Prop :=
  ∀ s t : State, s.calendar.Ok → step s = .next t → t.calendar.Ok

/-- A power-on with RESETN high and the BAUD strap low, followed by the end of start-up, leaves a part with two unmarked banks in
the state the model calls reset, its waiting commands aside (log entry 1). -/
def Obligations.ColdStartLeavesReset : Prop :=
  ∀ s : State, s.archive.bankA = .unmarked → s.archive.bankB = .unmarked →
    ∃ t, exec (.powerOn false true) s = .next t ∧
      exec .startupComplete t = .next (State.reset.setPending s.pending)

/-! ## Encoding -/

/-- The code and the payload of a well-formed request determine its command: the reading `Request.command` of them, by the tables of
11.1 and 11.2, gives the very command back (R173). No command of the part runs that reading. -/
def Obligations.RequestReadsBack : Prop :=
  ∀ (c : Instr) (r : Request), c.wellFormed = true → c.toRequest = some r → r.command = some c

/-- The frame of a request: a start byte, a LEN of payload length plus 2, and bytes that sum to 0 from LEN to CHECK; received
one after another from HUNT its bytes reach the link's checks as that request and leave the receiver in HUNT (R157, R158). -/
def Obligations.FrameReachesTheChecks : Prop :=
  (∀ r : Request, ∃ check, r.frameBytes =
       0xA5 :: BitVec.ofNat 8 (r.payload.length + 2) :: r.tag :: r.code :: (r.payload ++ [check]) ∧
     (r.frameBytes.drop 1).foldl (· + ·) 0 = 0) ∧
  (∀ (s : State) (r : Request), s.phase = .listening → s.link.receiver = .hunt → r.payload.length ≤ 63 →
     s.takeBytes r.frameBytes = s.checkRequest r)

/-! ## The message link -/

/-- The receiver's table for bytes with a high stop bit while the link listens; a framing error, a byte during a start and a gap
limit in HUNT (log entry 5) change nothing, and a gap limit inside a frame discards it with LINK_FAULT (R156, R158, R159, R172). -/
def Obligations.ReceiverTakesBytes : Prop :=
  (∀ (s : State) (b : Byte), s.phase = .listening →
     (s.link.receiver = .hunt →
       exec (.byteReceived b true) s = .next (if b = 0xA5 then s.setLink { s.link with receiver := .length } else s)) ∧
     (s.link.receiver = .length → 2 ≤ b.toNat → b.toNat ≤ 65 →
       exec (.byteReceived b true) s = .next (s.setLink { s.link with receiver := .body b [] b.toNat })) ∧
     (s.link.receiver = .length → b.toNat < 2 ∨ 65 < b.toNat →
       exec (.byteReceived b true) s =
         .next ((s.setLink { s.link with receiver := .hunt }).offer .linkFault 3 0)) ∧
     (∀ len taken due, s.link.receiver = .body len taken due → 2 ≤ due →
       exec (.byteReceived b true) s =
         .next (s.setLink { s.link with receiver := .body len (taken ++ [b]) (due - 1) })) ∧
     (∀ len taken, s.link.receiver = .body len taken 1 →
       exec (.byteReceived b true) s = .next (s.setLink { s.link with receiver := .check len (taken ++ [b]) })) ∧
     (∀ len taken, s.link.receiver = .check len taken → (len :: taken ++ [b]).foldl (· + ·) 0 ≠ 0 →
       exec (.byteReceived b true) s =
         .next ((s.setLink { s.link with receiver := .hunt }).offer .linkFault 1 0)) ∧
     (∀ len tag code payload, s.link.receiver = .check len (tag :: code :: payload) →
       (len :: tag :: code :: payload ++ [b]).foldl (· + ·) 0 = 0 →
       exec (.byteReceived b true) s =
         .next ((s.setLink { s.link with receiver := .hunt }).checkRequest ⟨tag, code, payload⟩))) ∧
  ((∀ (s : State) (b : Byte), exec (.byteReceived b false) s = .next s) ∧
   (∀ (s : State) (b : Byte) (stop : Bool), s.phase ≠ .listening → exec (.byteReceived b stop) s = .next s) ∧
   (∀ s : State, s.link.receiver = .hunt → exec .gapTimerExpiry s = .next s) ∧
   (∀ s : State, s.phase = .listening → s.link.receiver ≠ .hunt →
     exec .gapTimerExpiry s = .next ((s.setLink { s.link with receiver := .hunt }).offer .linkFault 2 0)))

/-- The link's checks of an intact frame in their order: the first that fails refuses it with its result, and a frame that passes
all five joins the inbox and the unanswered set (R161). The codes and payload lengths are those of 11.1, SET_LIST's 2 + 2n for n of
0 to 16. A refusal joins the reply queue in a free place, of the eight less the replies and the places reserved, and otherwise is
dropped with LINK_FAULT 4 (R163). -/
def Obligations.LinkChecksInOrder : Prop :=
  let exactly : List (Nat × Nat) :=
    [(0x02, 0), (0x03, 0), (0x04, 0), (0x08, 1), (0x09, 2), (0x0A, 1), (0x10, 7), (0x11, 0), (0x12, 0), (0x13, 1),
      (0x18, 2), (0x19, 4), (0x1A, 0), (0x20, 17), (0x21, 1), (0x22, 1), (0x24, 5), (0x25, 5), (0x26, 1),
      (0x30, 2), (0x33, 7), (0x34, 2), (0x35, 1), (0x36, 1), (0x37, 1), (0x38, 0), (0x39, 3),
      (0x41, 1), (0x42, 1), (0x43, 0), (0x44, 0), (0x48, 4), (0x49, 1), (0x4A, 1), (0x4B, 0),
      (0x50, 12), (0x51, 1), (0x52, 1), (0x53, 1), (0x54, 1), (0x58, 0), (0x59, 0), (0x5A, 0), (0x5B, 6)]
  let ranges : List (Nat × Nat × Nat) := [(0x01, 0, 63), (0x31, 3, 50), (0x32, 2, 50)]
  let named (code : Byte) : Prop :=
    code = 0x40 ∨ (∃ p ∈ exactly, p.1 = code.toNat) ∨ ∃ p ∈ ranges, p.1 = code.toNat
  let allowed (code : Byte) (n : Nat) : Prop :=
    (code = 0x40 ∧ ∃ k, k ≤ 16 ∧ n = 2 + 2 * k) ∨ (code.toNat, n) ∈ exactly ∨
      ∃ p ∈ ranges, p.1 = code.toNat ∧ p.2.1 ≤ n ∧ n ≤ p.2.2
  (∀ (s : State) (r : Request),
     let passed := r.tag.toNat ≤ 15 ∧ r.tag ∉ s.link.unanswered ∧ s.link.unanswered.length < 4
     (15 < r.tag.toNat → s.checkRequest r = s.refuseFrame r.tag .badField) ∧
     (r.tag.toNat ≤ 15 → r.tag ∈ s.link.unanswered → s.checkRequest r = s.refuseFrame r.tag .dupTag) ∧
     (r.tag.toNat ≤ 15 → r.tag ∉ s.link.unanswered → 4 ≤ s.link.unanswered.length →
       s.checkRequest r = s.refuseFrame r.tag .busy) ∧
     (passed → ¬named r.code → s.checkRequest r = s.refuseFrame r.tag .badCode) ∧
     (passed → named r.code → ¬allowed r.code r.payload.length → s.checkRequest r = s.refuseFrame r.tag .badLength) ∧
     (passed → allowed r.code r.payload.length →
       s.checkRequest r =
         s.setLink { s.link with inbox := s.link.inbox ++ [r], unanswered := s.link.unanswered ++ [r.tag] })) ∧
  (∀ (s : State) (tag : Byte) (result : Result),
     let reserved := s.store.commits.length + (if s.archive.op = .none then 0 else 1) +
       (if s.link.handed = none then 0 else 1)
     (s.link.replies.length + reserved < 8 →
       s.refuseFrame tag result = s.setLink { s.link with replies := s.link.replies ++ [refusal tag result] }) ∧
     (8 ≤ s.link.replies.length + reserved → s.refuseFrame tag result = s.offer .linkFault 4 0))

/-- The hand-off: the oldest inbox request is handed when nothing is handed, a place is free and no RESTART reply waits (R164).
The front reply leaves on the line in a frame whose bytes sum to 0 and its place is freed; RESTART's makes its warm start due, and
nothing behind it is sent (R157, R168, R171; log entries 5, 16 and 17). -/
def Obligations.HandOffAndReply : Prop :=
  (∀ s : State,
     (∀ r rest, s.link.inbox = r :: rest → s.link.handed = none → 0 < s.freePlaces → s.restartWaits = false →
       exec .requestHandoff s = .next (s.setLink { s.link with inbox := rest, handed := some r })) ∧
     ((s.link.inbox = [] ∨ s.link.handed ≠ none ∨ s.freePlaces = 0 ∨ s.restartWaits = true) →
       exec .requestHandoff s = .next s)) ∧
  (∀ s : State,
     (∀ r rest, s.link.replies = r :: rest → s.link.restartDue = false →
       ∃ check,
         exec .replyTransmitted s =
           .next (s.setLink
             { s.link with
               replies := rest
               restartDue := r.restarts
               lastFrame := 0xA6 :: BitVec.ofNat 8 (r.payload.length + 2) :: r.tag :: r.result.code ::
                 (r.payload ++ [check]) }) ∧
         (BitVec.ofNat 8 (r.payload.length + 2) :: r.tag :: r.result.code :: (r.payload ++ [check])).foldl (· + ·) 0
           = 0) ∧
     ((s.link.replies = [] ∨ s.link.restartDue = true) → exec .replyTransmitted s = .next s))

/-- A request sent to a listening link that has room and no other request waiting is handed over and taken: it does exactly what
it does when the link has handed it over (R158, R161, R164; log entry 3). A request sent to a link that refuses it or keeps it waiting
has no effect beyond the link's checks (R161, R164, R167), and one sent during a start has none (R172). -/
def Obligations.SentRequestIsTaken : Prop :=
  (∀ (c : Instr) (r : Request) (s : State), c.wellFormed = true → c.toRequest = some r →
    s.phase = .listening → s.link.receiver = .hunt → s.link.inbox = [] → s.link.handed = none →
    r.tag ∉ s.link.unanswered → s.link.unanswered.length < 4 → 0 < s.freePlaces → s.restartWaits = false →
    exec c s =
      exec c (s.setLink { s.link with unanswered := s.link.unanswered ++ [r.tag], handed := some r })) ∧
  (∀ (c : Instr) (r : Request) (s : State), c.toRequest = some r → s.link.handed ≠ some r →
    (s.phase = .listening → s.link.receiver = .hunt → r.payload.length ≤ 63 →
      (15 < r.tag.toNat ∨ r.tag ∈ s.link.unanswered ∨ 4 ≤ s.link.unanswered.length ∨ s.link.inbox ≠ [] ∨
        s.link.handed ≠ none ∨ s.freePlaces = 0 ∨ s.restartWaits = true) →
      exec c s = .next (s.checkRequest r)) ∧
    (s.phase ≠ .listening → exec c s = .next s))

/-- PING returns its bytes, IDENTIFY the identification of the part, and STATUS one picture of every block; none of them changes
anything else (R169, R170, R177). -/
def Obligations.LinkRequestsReadThePart : Prop :=
  ((∀ (tag : Byte) (bytes : List Byte) (s : State), s.HasHanded (.ping tag bytes) →
     exec (.ping tag bytes) s = .next (s.answered (okReply tag bytes))) ∧
   (∀ (tag : Byte) (s : State), s.HasHanded (.identify tag) →
     exec (.identify tag) s =
       .next (s.answered (okReply tag
         [0x08, 0x48, 1, if s.link.speed = .baud19200 then 0 else 1, 24, 2, 16, 8, 4, 16, 6, 32, 16, 16, 4, 8])))) ∧
  (∀ (tag : Byte) (s : State), s.HasHanded (.status tag) →
     ∃ payload, exec (.status tag) s = .next (s.answered (okReply tag payload)) ∧ payload.length = 20 ∧
       payload[0]? = some (byteOf s.calendar.state.code) ∧
       payload[1]? = some (byteOf s.calendar.crystal.code) ∧
       payload[2]? = some (byteOf s.frame.display.mode.code) ∧
       payload[3]? = some (byteOf s.stack.selection.source.code) ∧
       payload[4]? = some (byteOf (s.stack.selection.page.getD 0)) ∧
       payload[5]? = some (byteOf s.stack.records.length) ∧
       payload[6]? = some (byteOf s.rotation.state.code) ∧
       payload[7]? = some (byteOf s.rotation.active.val) ∧
       payload[8]? = some (partByte (s.rotation.seat.map Seat.cursor)) ∧
       payload[9]? = some (byteOf s.store.drafts[0].code) ∧
       payload[10]? = some (byteOf s.store.drafts[1].code) ∧
       payload[11]? = some (byteOf s.store.commits.length) ∧
       payload[12]? = some (byteOf s.reports.records.length) ∧
       payload[13]? = some (flagByte s.reports.lost) ∧
       (payload.drop 14).take 2 = halfBytes s.reports.mask ∧
       payload[16]? = some (flagByte s.reports.attnEnable) ∧
       payload[17]? = some (flagByte s.archive.dirty) ∧
       payload[18]? = some (byteOf s.archive.op.code) ∧
       payload[19]? = some (byteOf (s.link.unanswered.erase tag).length))

/-- RESTART is answered OK with a reply that starts the part once it has been transmitted, and while that reply waits the link hands
nothing over (R164, R171). The warm start then empties the live state, keeps the calendar but for its sync enable, and makes a HELD
calendar RUNNING with a prescaler restart (R38, R57, R73, R108, R148, R172). That the minute starts that wait, an unfinished walk and
the second ticks owed to the rotation, the stack and the page store are dropped is the model's reading (log entry 14). That the start
is a command of its own, due once the reply has left, is the model's choice (log entry 17), as are a start command without occasion
(log entry 5) and what stands of the settings between a start's two ends (log entry 19). -/
def Obligations.RestartRunsThroughItsReply : Prop :=
  (∀ (tag : Byte) (s : State), s.HasHanded (.restart tag) →
    exec (.restart tag) s = .next (s.answered { okReply tag [] with restarts := true })) ∧
  (∀ s : State, s.link.restartDue = true ∨ (∃ r ∈ s.link.replies, r.restarts = true) →
    exec .requestHandoff s = .next s) ∧
  (∀ s : State, s.phase = .listening → s.link.restartDue = true →
    ∃ t, exec .warmStartByRestart s = .next t ∧ t.phase = .starting .restart ∧ t.Cleared ∧
      t.cells = { s.cells with values := Vector.replicate 8 0 } ∧
      t.rotation = { s.rotation with seat := none, paused := false } ∧
      t.reports = { s.reports with records := [], lost := false, attnLow := false } ∧
      (∀ timer, s.calendar.state = .held timer →
        t.calendar = { s.calendar with state := .running, sync := false, prescaler := 0 } ∧
        t.frame.blinkOn = true ∧ t.frame.nextBoundary = s.frame.rate.period) ∧
      (s.calendar.state = .invalid ∨ s.calendar.state = .running →
        t.calendar = { s.calendar with sync := false } ∧
        t.frame.blinkOn = s.frame.blinkOn ∧ t.frame.nextBoundary = s.frame.nextBoundary) ∧
      t.link.speed = s.link.speed ∧ t.archive.bankA = s.archive.bankA ∧ t.archive.bankB = s.archive.bankB) ∧
  (∀ s : State, s.phase ≠ .listening ∨ s.link.restartDue = false → exec .warmStartByRestart s = .next s)

/-! ## Reports -/

/-- The report queue settles a report by the first row of its table that holds (R147), the record created carrying the stamp of
the calendar (R145). -/
def Obligations.ReportSettlesByTheTable : Prop :=
  ∀ (s : State) (k : Kind) (subject detail : Nat), s.phase = .listening → s.ReportsOk →
    let q := s.reports
    let stamp : Option Stamp :=
      if s.calendar.state = .invalid then none else some ⟨s.calendar.fields.hour, s.calendar.fields.minute⟩
    (k ≠ .started → q.mask.getLsbD k.code = false → s.offer k subject detail = s) ∧
    ((k = .started ∨ q.mask.getLsbD k.code = true) →
      (∀ i r, q.records[i]? = some r → r.kind = k → r.subject = subject →
        s.offer k subject detail =
          s.setReports
            { q with records := q.records.set i { r with count := min 255 (r.count + 1), detail := detail } }) ∧
      ((∀ r ∈ q.records, ¬(r.kind = k ∧ r.subject = subject)) →
        (q.records.length = 16 → s.offer k subject detail = s.setReports { q with lost := true }) ∧
        (q.records.length < 16 →
          s.offer k subject detail =
            s.setReports
              { q with records := q.records ++ [⟨k, subject, detail, 1, stamp⟩], attnLow := q.attnEnable })))

/-- FETCH_REPORTS removes the first records, clears LOST and re-examines ATTN, and its reply carries what was read (R149, R177).
SET_REPORT_MASK takes every value and returns it; SET_ATTN takes 0 and 1, with ATTN re-examined (R151, R152, R153). -/
def Obligations.ReportRequests : Prop :=
  (∀ (tag max : Byte) (s : State), s.HasHanded (.fetchReports tag max) →
     (max.toNat = 0 ∨ 8 < max.toNat →
       exec (.fetchReports tag max) s = .next (s.answered (refusal tag .badField))) ∧
     (1 ≤ max.toNat → max.toNat ≤ 8 →
       let q := s.reports
       let n := min max.toNat q.records.length
       exec (.fetchReports tag max) s =
         .next ((s.answered (okReply tag
           ([byteOf n, flagByte q.lost] ++ (q.records.take n).flatMap fun r =>
             [byteOf r.kind.code, byteOf r.subject, byteOf r.detail, byteOf r.count,
               partByte (r.stamp.map Stamp.hour), partByte (r.stamp.map Stamp.minute)]))).setReports
           { q with
             records := q.records.drop n
             lost := false
             attnLow := q.attnEnable && !(q.records.drop n).isEmpty }))) ∧
  ((∀ (tag : Byte) (mask : Half) (s : State), s.HasHanded (.setReportMask tag mask) →
     exec (.setReportMask tag mask) s =
       .next ((s.answered (okReply tag [mask.extractLsb' 0 8, mask.extractLsb' 8 8])).setReports
         { s.reports with mask := mask })) ∧
   (∀ (tag enable : Byte) (s : State), s.HasHanded (.setAttn tag enable) →
     (enable = 0 → exec (.setAttn tag enable) s =
       .next ((s.answered (okReply tag [])).setReports { s.reports with attnEnable := false, attnLow := false })) ∧
     (enable = 1 → exec (.setAttn tag enable) s =
       .next ((s.answered (okReply tag [])).setReports
         { s.reports with attnEnable := true, attnLow := !s.reports.records.isEmpty })) ∧
     (enable ≠ 0 → enable ≠ 1 →
       exec (.setAttn tag enable) s = .next (s.answered (refusal tag .badField)))))

/-! ## Calendar and ticks -/

/-- SET_TIME: the range check before the crystal's, and by the hold field RUNNING with a prescaler restart, or HELD with the hold
timer at 0 and no restart; the reply carries the weekday of the date (R99, R100). The minute starts the calendar has handed over
come first: that order is the model's reading (log entry 26). -/
def Obligations.SetTimeWritesOrRefuses : Prop :=
  ∀ (tag year month day hour minute second hold : Byte) (s : State),
    s.HasHanded (.setTime tag year month day hour minute second hold) →
    let c : Instr := .setTime tag year month day hour minute second hold
    let inRange := TimeInRange year month day hour minute second
    let y := 2000 + year.toNat
    let f : CalendarFields :=
      ⟨y, month.toNat, day.toNat, hour.toNat, minute.toNat, second.toNat, weekdayOf y month.toNat day.toNat⟩
    let before := s.takeWaiting
    (¬inRange ∨ 1 < hold.toNat → exec c s = .next (s.answered (refusal tag .badField))) ∧
    (inRange → hold.toNat ≤ 1 → s.calendar.crystal = .stopped →
      exec c s = .next (s.answered (refusal tag .wrongState))) ∧
    (inRange → hold = 0 → s.calendar.crystal = .running →
      exec c s =
        .next (((before.answered (okReply tag [byteOf f.weekday])).setCalendar
          { s.calendar with fields := f, state := .running, prescaler := 0 }).setFrame
          { before.frame with blinkOn := true, nextBoundary := before.frame.rate.period })) ∧
    (inRange → hold = 1 → s.calendar.crystal = .running →
      exec c s =
        .next ((before.answered (okReply tag [byteOf f.weekday])).setCalendar
          { s.calendar with fields := f, state := .held 0 }))

/-- RELEASE_TIME and an enabled SYNC edge end a hold with a prescaler restart, and do nothing to any other calendar (R95, R102,
R103). SET_SYNC writes the sync enable (R103), and GET_TIME returns the ten bytes of the calendar (R107, R177). -/
def Obligations.HoldIsReleasedAndTimeIsRead : Prop :=
  (let released (s : State) : State :=
     (s.setCalendar { s.calendar with state := .running, prescaler := 0 }).setFrame
       { s.frame with blinkOn := true, nextBoundary := s.frame.rate.period }
   (∀ (tag : Byte) (s : State), s.HasHanded (.releaseTime tag) →
     (∀ timer, s.calendar.state = .held timer →
       exec (.releaseTime tag) s = .next (released (s.answered (okReply tag [])))) ∧
     (s.calendar.state = .invalid ∨ s.calendar.state = .running →
       exec (.releaseTime tag) s = .next (s.answered (refusal tag .wrongState)))) ∧
   (∀ s : State,
     (∀ timer, s.calendar.state = .held timer → s.calendar.sync = true →
       exec .syncFallingEdge s = .next (released s)) ∧
     ((s.calendar.state = .invalid ∨ s.calendar.state = .running ∨ s.calendar.sync = false) →
       exec .syncFallingEdge s = .next s))) ∧
  ((∀ (tag enable : Byte) (s : State), s.HasHanded (.setSync tag enable) →
     (enable = 0 → exec (.setSync tag enable) s =
       .next ((s.answered (okReply tag [])).setCalendar { s.calendar with sync := false })) ∧
     (enable = 1 → exec (.setSync tag enable) s =
       .next ((s.answered (okReply tag [])).setCalendar { s.calendar with sync := true })) ∧
     (enable ≠ 0 → enable ≠ 1 →
       exec (.setSync tag enable) s = .next (s.answered (refusal tag .badField)))) ∧
   (∀ (tag : Byte) (s : State), s.HasHanded (.getTime tag) →
     let c := s.calendar
     let state : Byte := match c.state with
       | .invalid => 0
       | .held _ => 1
       | .running => 2
     exec (.getTime tag) s =
       .next (s.answered (okReply tag
         [byteOf (c.fields.year - 2000), byteOf c.fields.month, byteOf c.fields.day, byteOf c.fields.hour,
           byteOf c.fields.minute, byteOf c.fields.second, byteOf c.fields.weekday, state,
           if c.crystal = .running then 1 else 0, if c.sync = true then 1 else 0]))))

/-- The crystal's changes of status: a loss makes the calendar INVALID with its fields and the prescaler's count kept, a
resumption restarts the prescaler, and each offers CLOCK_LOST (R92, R93, R95, R106). A second tick is handed to its four recipients,
during a start to the calendar alone, and half-second ticks turn the blink phase (R57, R94, R108; log entries 5 and 6). The minute
starts that the calendar has handed over come before the loss: that order is the model's reading (log entry 26). -/
def Obligations.TicksAndCrystalChanges : Prop :=
  (∀ s : State,
     (s.calendar.crystal = .running →
       exec .crystalStopped s =
         .next ((s.takeWaiting.setCalendar { s.calendar with crystal := .stopped, state := .invalid }).offer .clockLost
           1 0) ∧
       exec .crystalResumed s = .next s) ∧
     (s.calendar.crystal = .stopped →
       exec .crystalStopped s = .next s ∧
       exec .crystalResumed s =
         .next (((s.setCalendar { s.calendar with crystal := .running, prescaler := 0 }).setFrame
           { s.frame with blinkOn := true, nextBoundary := s.frame.rate.period }).offer .clockLost 2 0))) ∧
  (∀ s : State,
     (s.phase = .listening →
       exec .secondTick s =
         .next ((s.setCalendar { s.calendar with prescaler := 0 }).setOwed
           ⟨s.owed.calendar + 1, s.owed.rotation + 1, s.owed.stack + 1, s.owed.store + 1⟩)) ∧
     (s.phase ≠ .listening →
       exec .secondTick s =
         .next ((s.setCalendar { s.calendar with prescaler := 0 }).setOwed
           { s.owed with calendar := s.owed.calendar + 1 })) ∧
     exec (.halfSecondTick true) s = .next (s.setFrame { s.frame with blinkOn := true }) ∧
     exec (.halfSecondTick false) s =
       .next ((s.setCalendar { s.calendar with prescaler := 16384 }).setFrame { s.frame with blinkOn := false }))

/-- A second tick at the calendar: nothing while INVALID; one second more while RUNNING, with a minute start as the second passes
from 59 to 0 and CALENDAR_WRAP at the end of 2099 (R94, R97, R108); one count of the hold timer while HELD, which expires at 2 with
HOLD_EXPIRED, no prescaler restart and no advance of the fields, and does not count during a start (R104, R108; log entry 5). The end
of a minute comes after the minute starts handed over before it: that order is the model's reading (log entry 26). -/
def Obligations.SecondTickAtTheCalendar : Prop :=
  (∀ s : State,
     let f := s.calendar.fields
     let taken := s.setOwed { s.owed with calendar := s.owed.calendar - 1 }
     let start (g : CalendarFields) : List MinuteStart :=
       if s.phase = .listening then [⟨g.minute, g.hour, g.day, g.weekday, g.month⟩] else []
     let before := taken.takeWaiting
     let advanced (g : CalendarFields) : State := before.setCalendar { s.calendar with fields := g }
     (s.owed.calendar = 0 → exec .calendarSecondCount s = .next s) ∧
     (0 < s.owed.calendar → s.calendar.state = .invalid → exec .calendarSecondCount s = .next taken) ∧
     (0 < s.owed.calendar → s.calendar.state = .running → f.second < 59 →
       exec .calendarSecondCount s = .next (taken.setCalendar { s.calendar with fields := { f with second := f.second + 1 } })) ∧
     (0 < s.owed.calendar → s.calendar.state = .running → f.second = 59 →
       ¬(f.year = 2099 ∧ f.month = 12 ∧ f.day = 31 ∧ f.hour = 23 ∧ f.minute = 59) →
       exec .calendarSecondCount s =
         .next ((advanced f.nextSecond).setSchedule
           { before.schedule with minuteStarts := start f.nextSecond })) ∧
     (0 < s.owed.calendar → s.calendar.state = .running →
       f.year = 2099 → f.month = 12 → f.day = 31 → f.hour = 23 → f.minute = 59 → f.second = 59 →
       let first : CalendarFields := ⟨2000, 1, 1, 0, 0, 0, 5⟩
       exec .calendarSecondCount s =
         .next (((advanced first).offer .calendarWrap 0 0).setSchedule
           { before.schedule with minuteStarts := start first }))) ∧
  (∀ (s : State) (timer : Nat), s.calendar.state = .held timer → 0 < s.owed.calendar →
     let taken := s.setOwed { s.owed with calendar := s.owed.calendar - 1 }
     let expired := (taken.setCalendar { s.calendar with state := .running }).offer .holdExpired 0 0
     (s.phase = .listening → timer = 0 →
       exec .holdTimerCount s = .next (taken.setCalendar { s.calendar with state := .held 1 }) ∧
       exec .holdExpiry s = .next s) ∧
     (s.phase = .listening → timer = 1 →
       exec .holdTimerCount s = .next expired ∧ exec .holdExpiry s = .next expired) ∧
     (s.phase ≠ .listening → exec .holdTimerCount s = .next taken ∧ exec .holdExpiry s = .next s))

/-- One second more of a valid date and time is a valid date and time one second later, and the weekday moves by one day exactly
when the day rolls at midnight; the last second of 2099 is followed by the first of 2000 (R96, R97). -/
def Obligations.NextSecondIsOneSecondLater : Prop :=
  ∀ f : CalendarFields, f.Ok →
    f.nextSecond.Ok ∧
    (f.isLast = false →
      f.nextSecond.absolute = f.absolute + 1 ∧
      f.nextSecond.weekday =
        if f.hour = 23 ∧ f.minute = 59 ∧ f.second = 59 then (f.weekday + 1) % 7 else f.weekday) ∧
    (f.isLast = true → f.nextSecond = ⟨2000, 1, 1, 0, 0, 0, 5⟩)

/-! ## Cells, fields and value registers -/

/-- SET_CELL refuses a bad number, a bad reference or no segment at all, then a busy archive, and otherwise defines the cell;
CLEAR_CELL refuses a bad number, a busy archive, an undefined cell and a cell in use, in this order, and otherwise makes the cell
undefined; GET_CELL reads an entry with its in-use flag (R26, R27, R28). -/
def Obligations.CellRequests : Prop :=
  (∀ (tag cell : Byte) (refs : List (Byte × Byte)) (s : State), refs.length = 8 →
     s.HasHanded (.setCell tag cell refs) →
     let c : Instr := .setCell tag cell refs
     let good := (∀ p ∈ refs, p = (0xFF, 0xFF) ∨ p.1.toNat ≤ 7 ∧ p.2.toNat ≤ 47) ∧
       ∃ p ∈ refs.take 7, p ≠ (0xFF, 0xFF)
     (15 < cell.toNat ∨ ¬good → exec c s = .next (s.answered (refusal tag .badField))) ∧
     (∀ i : Fin 16, cell.toNat = i.val → good → s.archive.op ≠ .none →
       exec c s = .next (s.answered (refusal tag .archiveBusy))) ∧
     (∀ i : Fin 16, cell.toNat = i.val → good → s.archive.op = .none →
       ∃ new : Cell, (∀ (j : Fin 8) (p : Byte × Byte), refs[j.val]? = some p → refBytes new[j] = [p.1, p.2]) ∧
         exec c s =
           .next (((s.answered (okReply tag [])).setCells { s.cells with table := s.cells.table.set i (some new) }).setArchive
             { s.archive with dirty := true }))) ∧
  (∀ (tag cell : Byte) (s : State) (i : Fin 16),
     let covers (f : FieldList) : Prop := ∃ b ∈ f.bound, b.first ≤ i.val ∧ i.val < b.first + b.count
     let used := (∃ p ∈ s.store.pages, covers p.fields) ∨
       ∃ d ∈ s.store.drafts.toList, ∃ body, d = .committing body ∧ covers body.fields
     (s.HasHanded (.clearCell tag cell) →
       (15 < cell.toNat → exec (.clearCell tag cell) s = .next (s.answered (refusal tag .badField))) ∧
       (cell.toNat = i.val → s.archive.op ≠ .none →
         exec (.clearCell tag cell) s = .next (s.answered (refusal tag .archiveBusy))) ∧
       (cell.toNat = i.val → s.archive.op = .none → s.cells.table[i] = none →
         exec (.clearCell tag cell) s = .next (s.answered (refusal tag .noSuch))) ∧
       (cell.toNat = i.val → s.archive.op = .none → s.cells.table[i] ≠ none → used →
         exec (.clearCell tag cell) s = .next (s.answered (refusal tag .inUse))) ∧
       (cell.toNat = i.val → s.archive.op = .none → s.cells.table[i] ≠ none → ¬used →
         exec (.clearCell tag cell) s =
           .next (((s.answered (okReply tag [])).setCells { s.cells with table := s.cells.table.set i none }).setArchive
             { s.archive with dirty := true }))) ∧
     (s.HasHanded (.getCell tag cell) →
       (15 < cell.toNat → exec (.getCell tag cell) s = .next (s.answered (refusal tag .badField))) ∧
       (cell.toNat = i.val → s.cells.table[i] = none →
         exec (.getCell tag cell) s =
           .next (s.answered (okReply tag (0 :: 0 :: List.replicate 16 0xFF)))) ∧
       (∀ refs, cell.toNat = i.val → s.cells.table[i] = some refs →
         (used → exec (.getCell tag cell) s =
           .next (s.answered (okReply tag (1 :: 1 :: refs.toList.flatMap refBytes)))) ∧
         (¬used → exec (.getCell tag cell) s =
           .next (s.answered (okReply tag (1 :: 0 :: refs.toList.flatMap refBytes)))))))

/-- SET_VALUE writes a register with a number in range, ADD_VALUE the exact sum clamped to the range, and GET_VALUE reads it; a
register number above 7 is refused (R38, R39, R40). -/
def Obligations.ValueRegisterRequests : Prop :=
  ∀ (tag register : Byte) (v : Quad) (s : State),
    let took (r : Fin 8) (n : Int) (reply : List Byte) : State :=
      (s.answered (okReply tag reply)).setCells { s.cells with values := s.cells.values.set r n }
    (s.HasHanded (.setValue tag register v) →
      (7 < register.toNat ∨ v.toInt < -99999 ∨ 999999 < v.toInt →
        exec (.setValue tag register v) s = .next (s.answered (refusal tag .badField))) ∧
      (∀ r : Fin 8, register.toNat = r.val → -99999 ≤ v.toInt → v.toInt ≤ 999999 →
        exec (.setValue tag register v) s = .next (took r v.toInt []))) ∧
    (s.HasHanded (.addValue tag register v) →
      (7 < register.toNat → exec (.addValue tag register v) s = .next (s.answered (refusal tag .badField))) ∧
      (∀ r : Fin 8, register.toNat = r.val →
        let sum := s.cells.values[r] + v.toInt
        (sum < -99999 →
          exec (.addValue tag register v) s = .next (took r (-99999) (valueBytes (-99999) ++ [1]))) ∧
        (-99999 ≤ sum → sum ≤ 999999 →
          exec (.addValue tag register v) s = .next (took r sum (valueBytes sum ++ [0]))) ∧
        (999999 < sum →
          exec (.addValue tag register v) s = .next (took r 999999 (valueBytes 999999 ++ [1]))))) ∧
    (s.HasHanded (.getValue tag register) →
      (7 < register.toNat → exec (.getValue tag register) s = .next (s.answered (refusal tag .badField))) ∧
      (∀ r : Fin 8, register.toNat = r.val →
        exec (.getValue tag register) s = .next (s.answered (okReply tag (valueBytes s.cells.values[r])))))

/-- A VALUE binding shows the value of its register: one that fits right-aligned in decimal digits, with the minus and the blanks or
zeros its suppression gives, and all minus for one that does not fit (R34). The calendar sources show their two-digit parts or the year, all minus while
INVALID, and REMAIN the remaining time of the latched override; suppression blanks leading zeros, stopping at the first non-zero
digit, at the point cell or at the last cell (R35, R36). -/
def Obligations.FieldsShowTheirSources : Prop :=
  (∀ (b : Binding) (v : Int), b.Ok → -99999 ≤ v → v ≤ 999999 →
     let n := b.count
     let m := if v < 0 then 1 else 0
     let digits := max 1 (Nat.digits 10 v.natAbs).length
     let k := if b.suppress = true ∧ b.point ≠ 0 then n - b.point + 1 else 1
     (n < max digits k + m → b.showValue v = .minus true) ∧
     (max digits k + m ≤ n →
       ∃ ds : List Nat,
         ds.length = (if b.suppress = true then max digits k else n - m) ∧ (∀ x ∈ ds, x < 10) ∧
         Nat.ofDigits 10 ds.reverse = v.natAbs ∧
         b.showValue v =
           .value (List.replicate (n - m - ds.length) .blank ++ List.replicate m .minus ++ ds.map .digit))) ∧
  (∀ (b : Binding) (values : Vector Int 8) (c : Calendar) (remain : RemainSource) (r : Fin 8),
     b.source = .value → b.register = r.val → b.showing values c remain = b.showValue values[r]) ∧
  (∀ (b : Binding) (values : Vector Int 8) (c : Calendar) (remain : RemainSource), c.fields.Ok →
     let f := c.fields
     let stop : Nat := if b.point = 0 then 3 else b.point - 1
     let cells (d : Vector Nat 4) : List Glyph := (List.finRange 4).map fun k =>
       if b.suppress = true ∧ k.val < stop ∧ ∀ j : Fin 4, j ≤ k → d[j] = 0 then .blank else .digit d[k]
     let pair (m n : Nat) : List Glyph := cells #v[m / 10, m % 10, n / 10, n % 10]
     (b.source = .clockHM ∨ b.source = .clockMS ∨ b.source = .dateDM ∨ b.source = .dateY →
       c.state = .invalid → b.showing values c remain = .minus false) ∧
     (c.state ≠ .invalid →
       (b.source = .clockHM → b.showing values c remain = .value (pair f.hour f.minute)) ∧
       (b.source = .clockMS → b.showing values c remain = .value (pair f.minute f.second)) ∧
       (b.source = .dateDM → b.showing values c remain = .value (pair f.day f.month)) ∧
       (b.source = .dateY → b.showing values c remain = .value (pair (f.year / 100) (f.year % 100)))) ∧
     (b.source = .remain →
       (remain = none ∨ remain = some none → b.showing values c remain = .blank) ∧
       (∀ r, remain = some (some r) → r ≤ 5999 →
         b.showing values c remain = .value (pair (r / 60) (r % 60))) ∧
       (∀ r, remain = some (some r) → 5999 < r → b.showing values c remain = .minus true)))

/-- A written dot of the rendered image is on exactly when a binding lights a reference to it, by the segments of the twelve glyphs
(R29) or by the point of a shown value, and every other dot keeps the page image's value (R33). -/
def Obligations.RenderedDotIsLitOrKept : Prop :=
  ∀ (image : Dots) (fields : FieldList) (table : Vector (Option Cell) 16) (values : Vector Int 8) (c : Calendar)
    (remain : RemainSource) (dot : DotRef),
    let segments : List (List (Fin 8)) :=
      [[0, 1, 2, 3, 4, 5], [1, 2], [0, 1, 3, 4, 6], [0, 1, 2, 3, 6], [1, 2, 5, 6], [0, 2, 3, 5, 6], [0, 2, 3, 4, 5, 6],
        [0, 1, 2], [0, 1, 2, 3, 4, 5, 6], [0, 1, 2, 3, 5, 6]]
    let lights : Glyph → List (Fin 8)
      | .digit n => segments[n]?.getD []
      | .minus => [6]
      | .blank => []
    let character (w : Showing) (k : Nat) : Glyph := match w with
      | .value chars => chars[k]?.getD .blank
      | .minus _ => .minus
      | .blank => .blank
    let point (b : Binding) (k : Nat) : Prop := (∃ chars, b.showing values c remain = .value chars) ∧ b.point = k + 1
    let written := ∃ b ∈ fields.bound, ∃ k < b.count, ∃ cell : Cell, table[b.first + k]? = some (some cell) ∧
      ∃ j : Fin 8, cell[j] = some dot
    let lit := ∃ b ∈ fields.bound, ∃ k < b.count, ∃ cell : Cell, table[b.first + k]? = some (some cell) ∧
      ((∃ j ∈ lights (character (b.showing values c remain) k), cell[j] = some dot) ∨
        point b k ∧ cell[(7 : Fin 8)] = some dot)
    let on (d : Dots) : Prop := Dots.has d dot.common.val dot.segment.val = true
    (written → (on (renderFields image fields table values c remain) ↔ lit)) ∧
    (¬written → (on (renderFields image fields table values c remain) ↔ on image))

/-! ## The frame engine -/

/-- SET_GLASS refuses a value out of range, a mode other than OFF and a busy archive in this order, and otherwise replaces the
glass settings and sets the dirty flag (R43). SET_DISPLAY writes all four display settings or refuses (R46), and GET_DISPLAY returns
the display settings, the glass settings and the latched frame (R48). -/
def Obligations.GlassAndDisplayRequests : Prop :=
  (∀ (tag duty rate : Byte) (s : State), s.HasHanded (.setGlass tag duty rate) →
     let c : Instr := .setGlass tag duty rate
     let inRange := 1 ≤ duty.toNat ∧ duty.toNat ≤ 8 ∧ rate.toNat ≤ 2
     (¬inRange → exec c s = .next (s.answered (refusal tag .badField))) ∧
     (inRange → s.frame.display.mode ≠ .off → exec c s = .next (s.answered (refusal tag .wrongState))) ∧
     (inRange → s.frame.display.mode = .off → s.archive.op ≠ .none →
       exec c s = .next (s.answered (refusal tag .archiveBusy))) ∧
     (∀ code : FrameRate, code.code = rate.toNat → inRange → s.frame.display.mode = .off → s.archive.op = .none →
       exec c s =
         .next (((s.answered (okReply tag [])).setFrame { s.frame with glass := ⟨duty.toNat, code⟩ }).setArchive
           { s.archive with dirty := true }))) ∧
  ((∀ (tag mode invert contrast rowMask : Byte) (s : State), s.HasHanded (.setDisplay tag mode invert contrast rowMask) →
     let c : Instr := .setDisplay tag mode invert contrast rowMask
     (3 < mode.toNat ∨ 1 < invert.toNat ∨ 15 < contrast.toNat →
       exec c s = .next (s.answered (refusal tag .badField))) ∧
     (∀ m : Mode, m.code = mode.toNat → invert.toNat ≤ 1 → contrast.toNat ≤ 15 →
       exec c s =
         .next ((s.answered (okReply tag [])).setFrame
           { s.frame with display := ⟨m, decide (invert = 1), contrast.toNat, rowMask⟩ }))) ∧
   (∀ (tag : Byte) (s : State), s.HasHanded (.getDisplay tag) →
     exec (.getDisplay tag) s =
       .next (s.answered (okReply tag
         [byteOf s.frame.display.mode.code, if s.frame.display.invert = true then 1 else 0,
           byteOf s.frame.display.contrast, s.frame.display.rowMask, byteOf s.frame.glass.duty,
           byteOf s.frame.glass.rate.code, byteOf (s.frame.latched.page.getD 0),
           byteOf s.frame.latched.source.code]))))

/-- The composed frame dot by dot: blink, then invert, then the rows and the duty, then the display mode (R52 to R56). -/
def Obligations.ComposedDotFollowsTheStages : Prop :=
  ∀ (glass : Glass) (display : Display) (blinkOn latched : Bool) (mask : Option Dots) (picture : Dots),
    let drive := compose glass display blinkOn latched mask picture
    let row (c : Nat) : Bool := decide (c < glass.duty) && display.rowMask.getLsbD c
    let masked (c s : Nat) : Bool := (mask.map fun m => Dots.has m c s).getD false
    let shows (lit : Nat → Nat → Bool) : Prop :=
      ∃ image, drive = .scanned glass.duty display.contrast image ∧
        ∀ c s, c < 8 → s < 48 → Dots.has image c s = lit c s
    (display.mode = .off → drive = .ground) ∧
    (display.mode = .allDark → shows fun c _ => row c) ∧
    (display.mode = .allClear → shows fun _ _ => false) ∧
    (display.mode = .shown → shows fun c s =>
      row c && ((Dots.has picture c s && !(masked c s && !blinkOn)) != (display.invert && latched)))

/-- A frame boundary with no commit pending latches the selection, drives the frame composed from it and takes the frame rate of
the glass settings for its cadence; a boundary during a start does only the last (R33, R49, R50, R52, R58; log entry 10). The periods
are 1024, 512 and 256 counts (R94), and REMAIN fields take the remaining time of the selected record (R91). -/
def Obligations.FrameBoundaryLatchesTheSelection : Prop :=
  (FrameRate.f32.period = 1024 ∧ FrameRate.f64.period = 512 ∧ FrameRate.f128.period = 256) ∧
  (∀ s : State,
    (s.stack.selection.record = none → s.remainSource = none) ∧
    (∀ before o after, s.stack.records = before ++ o :: after → s.stack.selection.record = some o.identity →
      (∀ x ∈ before, x.identity ≠ o.identity) → s.remainSource = some o.remaining)) ∧
  (∀ s : State,
    let at_ := s.frame.nextBoundary % 32768
    let period := s.frame.glass.rate.period
    let next := (at_ / period + 1) * period
    (s.phase ≠ .listening →
      exec .frameBoundary s =
        .next ((s.setCalendar { s.calendar with prescaler := at_ }).setFrame
          { s.frame with rate := s.frame.glass.rate, nextBoundary := next })) ∧
    (s.phase = .listening → s.store.commits = [] →
      ∃ t, exec .frameBoundary s = .next t ∧
        t.frame.latched = s.stack.selection ∧ t.frame.rate = s.frame.glass.rate ∧ t.frame.nextBoundary = next ∧
        (∀ id p, s.stack.selection.page = some id → s.findPage id = some p →
          t.frame.drive = compose s.frame.glass s.frame.display s.frame.blinkOn true p.mask
            (renderFields p.image p.fields s.cells.table s.cells.values s.calendar s.remainSource)) ∧
        (s.stack.selection.page.bind s.findPage = none →
          t.frame.drive = compose s.frame.glass s.frame.display s.frame.blinkOn false none Dots.none ∧
            t.store = s.store ∧ t.reports = s.reports) ∧
        t.frame.glass = s.frame.glass ∧ t.frame.display = s.frame.display ∧ t.frame.blinkOn = s.frame.blinkOn ∧
        t.calendar = { s.calendar with prescaler := at_ } ∧ t.phase = s.phase ∧ t.cells = s.cells ∧
        t.rotation = s.rotation ∧ t.stack = s.stack ∧ t.schedule = s.schedule ∧ t.archive = s.archive ∧
        t.link = s.link ∧ t.owed = s.owed ∧ t.store.drafts = s.store.drafts ∧ t.store.commits = []))

/-- At a boundary that latches a page each bound index acts on its overflow latch by what it shows, and those that show an overflow
with a clear latch offer FIELD_OVERFLOW in ascending index; every other page keeps its latches (R37). -/
def Obligations.OverflowLatchesFollowTheFields : Prop :=
  ∀ (s : State) (id : Nat) (p : Page), s.phase = .listening → s.store.commits = [] →
    s.stack.selection.page = some id → s.findPage id = some p →
    let shows (i : Fin 4) : Option Showing :=
      p.fields[i].map fun b => b.showing s.cells.values s.calendar s.remainSource
    let report (t : State) (i : Fin 4) : State :=
      if shows i = some (.minus true) ∧ p.latches[i] = false then t.offer .fieldOverflow id i.val else t
    ∃ t q, exec .frameBoundary s = .next t ∧ t.findPage id = some q ∧
      q.unlatched = p.unlatched ∧ (∀ other, other ≠ id → t.findPage other = s.findPage other) ∧
      (∀ i : Fin 4,
        (shows i = some (.minus true) → q.latches[i] = true) ∧
        (∀ chars, shows i = some (.value chars) → q.latches[i] = false) ∧
        (shows i = none ∨ shows i = some .blank ∨ shows i = some (.minus false) → q.latches[i] = p.latches[i])) ∧
      t.reports = ([0, 1, 2, 3].foldl report s).reports

/-- Every pending commit completes at the frame boundary in acceptance order: its record takes the draft's content and its next
version, its draft is FREE, its deferred reply is produced, and no other record changes its stored content (R14). The boundary then
does what it does with no commit pending, on the state the completions leave: each record stands with clear latches, and a new id has
re-seated a STARVED rotation whose active list names it (R14 steps 2 and 6, R16, R50, R71). -/
def Obligations.CommitsCompleteAtTheBoundary : Prop :=
  ∀ s : State, s.phase = .listening → s.DraftsOk →
    let version (id : Nat) : Nat := match s.findPage id with
      | some old => (old.version + 1) % 256
      | none => 0
    let put (p : Page) (pages : List Page) : List Page :=
      (pages.filter fun q => decide (q.id < p.id)) ++ p :: pages.filter fun q => decide (p.id < q.id)
    let complete (u : State) (e : PendingCommit) : State :=
      match s.store.drafts[e.draft] with
      | .committing body =>
          let v := ((u.setStore
            { pages := put ⟨body.target, version body.target, body.image, body.mask, body.fields, Vector.replicate 4 false⟩
                u.store.pages
              drafts := u.store.drafts.set e.draft .free
              commits := u.store.commits.drop 1 }).setArchive { u.archive with dirty := true }).reply
              (okReply e.tag [byteOf body.target, byteOf (version body.target)])
          if e.isNew = true ∧ v.rotation.seat = none ∧ ∃ step ∈ v.rotation.activeList.steps, step.page = body.target then
            (v.reseat v.rotation.active).recompute
          else v
      | _ => u
    let completed := s.store.commits.foldl complete s
    (s.CollectionsOk → exec .frameBoundary s = exec .frameBoundary completed ∧ completed.store.commits = []) ∧
    ∃ t, exec .frameBoundary s = .next t ∧ t.store.commits = [] ∧
      (∀ d : Fin 2, t.store.drafts[d] =
        if s.store.drafts[d].isCommitting = true then .free else s.store.drafts[d]) ∧
      (s.store.commits ≠ [] → t.archive.dirty = true) ∧
      t.link.replies.take s.link.replies.length = s.link.replies ∧
      t.link.replies.length = s.link.replies.length + s.store.commits.length ∧
      t.link.unanswered = s.store.commits.foldl (fun l e => l.erase e.tag) s.link.unanswered ∧
      (∀ (i : Nat) (e : PendingCommit) (body : DraftBody),
        s.store.commits[i]? = some e → s.store.drafts[e.draft] = .committing body →
        t.link.replies[s.link.replies.length + i]? =
          some (okReply e.tag [byteOf body.target, byteOf (version body.target)]) ∧
        ∃ p, t.findPage body.target = some p ∧
          p.unlatched = ⟨body.target, version body.target, body.image, body.mask, body.fields,
            Vector.replicate 4 false⟩) ∧
      (∀ id, (∀ e ∈ s.store.commits, s.store.drafts[e.draft].target ≠ some id) →
        (t.findPage id).map Page.unlatched = (s.findPage id).map Page.unlatched)

/-! ## Pages and drafts -/

/-- A request that names a draft is refused with BAD_FIELD for a number above 1, NO_SUCH for a FREE draft and WRONG_STATE for a
COMMITTING one, before its own checks (R4). -/
def Obligations.DraftChecksComeFirst : Prop :=
  ∀ (tag draft offset index source register first count options : Byte) (bytes : List Byte) (s : State) (c : Instr),
    c ∈ [Instr.writeDots tag draft offset bytes, .writeBlink tag draft offset bytes,
      .bindField tag draft index source register first count options, .unbindField tag draft index,
      .commit tag draft, .abandon tag draft] →
    s.HasHanded c →
    (1 < draft.toNat → exec c s = .next (s.answered (refusal tag .badField))) ∧
    (∀ d : Fin 2, draft.toNat = d.val → s.store.drafts[d] = .free →
      exec c s = .next (s.answered (refusal tag .noSuch))) ∧
    (∀ (d : Fin 2) (body : DraftBody), draft.toNat = d.val → s.store.drafts[d] = .committing body →
      exec c s = .next (s.answered (refusal tag .wrongState)))

/-- OPEN_DRAFT refuses in the order of R5, and otherwise the lowest FREE slot is opened with blank content or a copy of the stored
page (R5, R6). -/
def Obligations.OpenDraftTakesTheLowestSlot : Prop :=
  ∀ (tag page base : Byte) (s : State), s.HasHanded (.openDraft tag page base) →
    let c : Instr := .openDraft tag page base
    let inRange := page ≠ 0 ∧ page ≠ 255 ∧ base.toNat ≤ 1
    let restoring := ∃ bank t, s.archive.op = .restore bank t
    let named := ∃ d : Fin 2, s.store.drafts[d].target = some page.toNat
    let full := s.store.drafts[0] ≠ .free ∧ s.store.drafts[1] ≠ .free
    let opened (d : Fin 2) (body : DraftBody) : State :=
      (s.answered (okReply tag [byteOf d.val])).setStore
        { s.store with drafts := s.store.drafts.set d (.editing body 0) }
    (¬inRange → exec c s = .next (s.answered (refusal tag .badField))) ∧
    (inRange → restoring → exec c s = .next (s.answered (refusal tag .archiveBusy))) ∧
    (inRange → ¬restoring → named → exec c s = .next (s.answered (refusal tag .inUse))) ∧
    (inRange → ¬restoring → ¬named → full → exec c s = .next (s.answered (refusal tag .noRoom))) ∧
    (inRange → ¬restoring → ¬named → ¬full → base = 1 → s.findPage page.toNat = none →
      exec c s = .next (s.answered (refusal tag .noSuch))) ∧
    (∀ d : Fin 2, s.store.drafts[d] = .free → (∀ e : Fin 2, e < d → s.store.drafts[e] ≠ .free) →
      inRange → ¬restoring → ¬named →
      (base = 0 →
        exec c s = .next (opened d ⟨page.toNat, Vector.replicate 48 0, none, Vector.replicate 4 none⟩)) ∧
      (∀ p, base = 1 → s.findPage page.toNat = some p →
        exec c s = .next (opened d ⟨page.toNat, p.image, p.mask, p.fields⟩)))

/-- WRITE_DOTS and WRITE_BLINK on a draft in DRAFT state: the segments written take the bytes carried and every other segment keeps
its value, a mask is created or removed as R8 gives, the idle count restarts and the dirty flag is set (R4, R7, R8). -/
def Obligations.DotWritesEditTheDraft : Prop :=
  ∀ (tag draft offset : Byte) (bytes : List Byte) (s : State) (d : Fin 2) (body : DraftBody) (idle : Nat),
    draft.toNat = d.val → s.store.drafts[d] = .editing body idle →
    let edited (new : DraftBody) : State :=
      ((s.answered (okReply tag [])).setStore
        { s.store with drafts := s.store.drafts.set d (.editing new 0) }).setArchive
        { s.archive with dirty := true }
    let written (old new : Dots) : Prop := ∀ k : Fin 48,
      new[k] = if offset.toNat ≤ k.val ∧ k.val < offset.toNat + bytes.length then bytes[k.val - offset.toNat]?.getD 0
        else old[k]
    (s.HasHanded (.writeDots tag draft offset bytes) →
      let c : Instr := .writeDots tag draft offset bytes
      (48 < offset.toNat + bytes.length → exec c s = .next (s.answered (refusal tag .badField))) ∧
      (offset.toNat + bytes.length ≤ 48 →
        ∃ new, written body.image new ∧ exec c s = .next (edited { body with image := new }))) ∧
    (s.HasHanded (.writeBlink tag draft offset bytes) →
      let c : Instr := .writeBlink tag draft offset bytes
      (bytes = [] → offset = 0 → exec c s = .next (edited { body with mask := none })) ∧
      (bytes = [] → offset ≠ 0 → exec c s = .next (s.answered (refusal tag .badField))) ∧
      (bytes ≠ [] → 48 < offset.toNat + bytes.length →
        exec c s = .next (s.answered (refusal tag .badField))) ∧
      (bytes ≠ [] → offset.toNat + bytes.length ≤ 48 →
        ∃ new, written (body.mask.getD (Vector.replicate 48 0)) new ∧
          exec c s = .next (edited { body with mask := some new })))

/-- BIND_FIELD and UNBIND_FIELD on a draft in DRAFT state write one index of its field list or refuse it, the point position and
the suppression standing in the options byte (R4, R31, R32, R176). -/
def Obligations.FieldEditsChangeOneIndex : Prop :=
  ∀ (tag draft index source register first count options : Byte) (s : State) (d : Fin 2) (body : DraftBody) (idle : Nat),
    draft.toNat = d.val → s.store.drafts[d] = .editing body idle →
    let edited (fields : FieldList) : State :=
      ((s.answered (okReply tag [])).setStore
        { s.store with drafts := s.store.drafts.set d (.editing { body with fields := fields } 0) }).setArchive
        { s.archive with dirty := true }
    (s.HasHanded (.bindField tag draft index source register first count options) →
      let c : Instr := .bindField tag draft index source register first count options
      let point := options.toNat % 8
      let good := source.toNat ≤ 5 ∧ 1 ≤ count.toNat ∧ count.toNat ≤ 6 ∧ first.toNat + count.toNat ≤ 16 ∧
        (source.toNat ≠ 4 → count.toNat = 4 ∧ register.toNat = 0) ∧ (source.toNat = 4 → register.toNat ≤ 7) ∧
        point ≤ count.toNat ∧ options.toNat / 8 % 16 = 0
      (3 < index.toNat ∨ ¬good → exec c s = .next (s.answered (refusal tag .badField))) ∧
      (∀ (i : Fin 4) (src : Source), index.toNat = i.val → src.code = source.toNat → good →
        exec c s = .next (edited (body.fields.set i
          (some ⟨src, register.toNat, first.toNat, count.toNat, decide (128 ≤ options.toNat), point⟩))))) ∧
    (s.HasHanded (.unbindField tag draft index) →
      (3 < index.toNat → exec (.unbindField tag draft index) s = .next (s.answered (refusal tag .badField))) ∧
      (∀ i : Fin 4, index.toNat = i.val →
        exec (.unbindField tag draft index) s = .next (edited (body.fields.set i none))))

/-- COMMIT of a draft in DRAFT state: an undefined cell refuses with its number, then want of room, then a busy archive; otherwise
the draft is COMMITTING with an entry at the end of the list and no reply yet. ABANDON frees the draft (R11, R12, R13). -/
def Obligations.CommitIsDeferredOrRefused : Prop :=
  ∀ (tag draft : Byte) (s : State) (d : Fin 2) (body : DraftBody) (idle : Nat),
    draft.toNat = d.val → s.store.drafts[d] = .editing body idle →
    let isNew := s.findPage body.target = none
    let full := isNew ∧ 24 < s.store.pages.length + s.store.pendingNew + 1
    (s.HasHanded (.commit tag draft) →
      (∀ i, firstUndefinedCell s.cells.table body.fields = some i →
        exec (.commit tag draft) s = .next (s.answered ⟨tag, .noSuch, [byteOf i], false⟩)) ∧
      (firstUndefinedCell s.cells.table body.fields = none →
        (full → exec (.commit tag draft) s = .next (s.answered (refusal tag .noRoom))) ∧
        (¬full → s.archive.op ≠ .none →
          exec (.commit tag draft) s = .next (s.answered (refusal tag .archiveBusy))) ∧
        (¬full → s.archive.op = .none →
          ∃ new : Bool, (new = true ↔ isNew) ∧
            exec (.commit tag draft) s =
              .next (s.deferred.setStore
                { s.store with
                  drafts := s.store.drafts.set d (.committing body)
                  commits := s.store.commits ++ [⟨d, new, tag⟩] })))) ∧
    (s.HasHanded (.abandon tag draft) →
      exec (.abandon tag draft) s =
        .next ((s.answered (okReply tag [])).setStore { s.store with drafts := s.store.drafts.set d .free }))

/-- The first undefined cell of a field list, in ascending index and from left to right: every cell met before it is defined, and
there is none exactly when every bound cell is defined (R12 check 1). -/
def Obligations.FirstUndefinedCellIsFirst : Prop :=
  ∀ (table : Vector (Option Cell) 16) (fields : FieldList),
    let isDefined (i : Nat) : Prop := ∃ cell : Cell, table[i]? = some (some cell)
    let walk : List Nat := fields.bound.flatMap fun b => (List.range b.count).map (b.first + ·)
    (∀ i, firstUndefinedCell table fields = some i ↔
      ¬isDefined i ∧ ∃ before after, walk = before ++ i :: after ∧ ∀ j ∈ before, isDefined j) ∧
    (firstUndefinedCell table fields = none ↔ ∀ b ∈ fields.bound, ∀ k < b.count, isDefined (b.first + k))

/-- DELETE_PAGE refuses in the order of R18; otherwise the record goes, with every override record that names it, the rotation
leaves it, and the selection is recomputed before the reply (R18, R19). The stack reports the records it loses in age order (R82); a
rotation on the page moves to the next step in cyclic order that names a present page, with its full dwell and no report, or is
STARVED with LIST_STARVED (R70). -/
def Obligations.DeletePageRemovesItEverywhere : Prop :=
  ∀ (tag page : Byte) (s : State), s.HasHanded (.deletePage tag page) →
    let c : Instr := .deletePage tag page
    let inRange := page ≠ 0 ∧ page ≠ 255
    let present := s.findPage page.toNat ≠ none
    let named := ∃ (d : Fin 2) (body : DraftBody), s.store.drafts[d] = .committing body ∧ body.target = page.toNat
    (¬inRange → exec c s = .next (s.answered (refusal tag .badField))) ∧
    (inRange → ¬present → exec c s = .next (s.answered (refusal tag .noSuch))) ∧
    (inRange → present → named → exec c s = .next (s.answered (refusal tag .wrongState))) ∧
    (inRange → present → ¬named → s.archive.op ≠ .none →
      exec c s = .next (s.answered (refusal tag .archiveBusy))) ∧
    (inRange → present → ¬named → s.archive.op = .none → s.SeatOk → s.CollectionsOk →
      let steps := s.rotation.activeList.steps
      let stays (id : Nat) : Prop := id ≠ page.toNat ∧ s.findPage id ≠ none
      let swept : State := (s.stack.records.filter fun o => o.page == page.toNat).foldl
        (fun u o => u.offer .overrideEnded o.page 3)
        ((((s.answered (okReply tag [])).setStore
          { s.store with pages := s.store.pages.filter fun p => p.id != page.toNat }).setArchive
          { s.archive with dirty := true }).setStack
          { s.stack with records := s.stack.records.filter fun o => o.page != page.toNat })
      (s.rotation.currentPage ≠ some page.toNat → exec c s = .next swept.recompute) ∧
      (∀ (seat : Seat) (d : Nat) (step : Step), s.rotation.currentPage = some page.toNat → s.rotation.seat = some seat →
        1 ≤ d → d ≤ steps.length → steps[(seat.cursor + d) % steps.length]? = some step → stays step.page →
        (∀ e x, 1 ≤ e → e < d → steps[(seat.cursor + e) % steps.length]? = some x → ¬stays x.page) →
        exec c s = .next (swept.setRotation
          { s.rotation with seat := some ⟨(seat.cursor + d) % steps.length, step.dwell⟩ }).recompute) ∧
      (s.rotation.currentPage = some page.toNat → (∀ step ∈ steps, ¬stays step.page) →
        exec c s = .next ((swept.setRotation { s.rotation with seat := none }).offer .listStarved
          s.rotation.active.val 0).recompute) ∧
      ∃ t, exec c s = .next t ∧
        t.link = (s.answered (okReply tag [])).link ∧
        t.store = { s.store with pages := s.store.pages.filter fun p => p.id != page.toNat } ∧
        t.findPage page.toNat = none ∧
        t.archive = { s.archive with dirty := true } ∧
        t.stack.records = s.stack.records.filter (fun o => o.page != page.toNat) ∧
        t.SeatOk ∧ (s.rotation.currentPage ≠ some page.toNat → t.rotation = s.rotation) ∧
        t.rotation.lists = s.rotation.lists ∧ t.rotation.active = s.rotation.active ∧
        t.rotation.paused = s.rotation.paused ∧
        t.stack.selection = selectionOf t.stack.records t.rotation.currentPage ∧
        t.phase = s.phase ∧ t.cells = s.cells ∧ t.frame = s.frame ∧ t.calendar = s.calendar ∧
        t.schedule = s.schedule ∧ t.owed = s.owed)

/-- LIST_PAGES returns the count and each id with its version; READ_PAGE refuses in its order and otherwise returns the image, the
mask or the bindings from the record (R21, R22, R23). -/
def Obligations.PagesAreReadBack : Prop :=
  (∀ (tag : Byte) (s : State), s.HasHanded (.listPages tag) →
    exec (.listPages tag) s =
      .next (s.answered (okReply tag
        (byteOf s.store.pages.length :: s.store.pages.flatMap fun p => [byteOf p.id, byteOf p.version])))) ∧
  (∀ (tag page part offset : Byte) (s : State), s.HasHanded (.readPage tag page part offset) →
    let c : Instr := .readPage tag page part offset
    let good := page ≠ 0 ∧ page ≠ 255 ∧ part.toNat ≤ 2 ∧ offset.toNat ≤ 47 ∧ (part = 2 → offset = 0)
    (¬good → exec c s = .next (s.answered (refusal tag .badField))) ∧
    (good → s.findPage page.toNat = none → exec c s = .next (s.answered (refusal tag .noSuch))) ∧
    (∀ p, good → s.findPage page.toNat = some p →
      let read (payload : List Byte) : Prop := exec c s = .next (s.answered (okReply tag payload))
      (part = 0 → read (byteOf p.version :: (if p.mask = none then 0 else 1) :: p.image.toList.drop offset.toNat)) ∧
      (part = 1 → p.mask = none → read [byteOf p.version, 0]) ∧
      (∀ m, part = 1 → p.mask = some m → read (byteOf p.version :: 1 :: m.toList.drop offset.toNat)) ∧
      (part = 2 → read (byteOf p.version :: ([0, 1, 2, 3] : List (Fin 4)).flatMap fun i =>
        match p.fields[i] with
        | none => []
        | some b =>
            [byteOf i.val, byteOf b.source.code, byteOf b.register, byteOf b.first, byteOf b.count,
              byteOf b.point ||| (if b.suppress = true then 0x80 else 0), if p.latches[i] = true then 1 else 0]))))

/-- An owed second tick adds 1 to the idle count of each draft in DRAFT state, and the tenth makes the draft FREE with DRAFT_ENDED,
detail 1; the expiry command acts only on that tick (R9, R94; the last is the model's choice, log entry 5). That draft 0 reports before
draft 1 where both expire at one tick is the model's choice (log entry 25). -/
def Obligations.DraftsExpireAtTen : Prop :=
  ∀ s : State,
    let taken := s.setOwed { s.owed with store := s.owed.store - 1 }
    let after (x : Draft) : Draft := match x with
      | .editing body idle => if idle < 9 then .editing body (idle + 1) else .free
      | other => other
    let ended (t : State) (x : Draft) : State := match x with
      | .editing body idle => if idle < 9 then t else t.offer .draftEnded body.target 1
      | _ => t
    let counted := ended (ended (taken.setStore
      { s.store with drafts := #v[after s.store.drafts[0], after s.store.drafts[1]] })
      s.store.drafts[0]) s.store.drafts[1]
    let due := ∃ (d : Fin 2) (body : DraftBody) (idle : Nat), s.store.drafts[d] = .editing body idle ∧ 9 ≤ idle
    (s.owed.store = 0 → exec .draftIdleCount s = .next s ∧ exec .draftExpiry s = .next s) ∧
    (0 < s.owed.store → exec .draftIdleCount s = .next counted) ∧
    (0 < s.owed.store → due → exec .draftExpiry s = .next counted) ∧
    (¬due → exec .draftExpiry s = .next s)

/-! ## Rotation -/

/-- Re-seating on a list seats the first step that names a present page with its full dwell, and otherwise leaves no seat, with
LIST_STARVED for a list that has steps (R62). -/
def Obligations.ReseatFindsTheFirstPresentStep : Prop :=
  ∀ (s : State) (l : Fin 4),
    let steps := s.rotation.lists[l].steps
    let isPresent (id : Nat) : Prop := s.findPage id ≠ none
    let seated (x : Option Seat) : State := s.setRotation { s.rotation with active := l, seat := x }
    (steps = [] → s.reseat l = seated none) ∧
    (∀ (before : List Step) (step : Step) (after : List Step), steps = before ++ step :: after →
      (∀ x ∈ before, ¬isPresent x.page) → isPresent step.page →
      s.reseat l = seated (some ⟨before.length, step.dwell⟩)) ∧
    (steps ≠ [] → (∀ x ∈ steps, ¬isPresent x.page) → s.reseat l = (seated none).offer .listStarved l.val 0)

/-- SET_LIST refuses a bad list, flag or step and then a busy archive; otherwise the list is replaced whole, and re-seating follows
where it is the active list. SELECT_LIST re-seats and replies the state reached and the cursor (R63, R65). PAUSE_ROTATION sets and
RESUME_ROTATION clears the pause flag and nothing else (R69), and GET_LIST returns a stored list (R64). -/
def Obligations.RotationRequests : Prop :=
  ((∀ (tag list wrap : Byte) (steps : List (Byte × Byte)) (s : State), s.HasHanded (.setList tag list wrap steps) →
     let c : Instr := .setList tag list wrap steps
     let good := wrap.toNat ≤ 1 ∧ ∀ p ∈ steps, p.1 ≠ 0 ∧ p.1 ≠ 255 ∧ p.2 ≠ 0
     (3 < list.toNat ∨ ¬good → exec c s = .next (s.answered (refusal tag .badField))) ∧
     (list.toNat ≤ 3 → good → s.archive.op ≠ .none →
       exec c s = .next (s.answered (refusal tag .archiveBusy))) ∧
     (∀ l : Fin 4, list.toNat = l.val → good → s.archive.op = .none →
       let new : RotationList := ⟨steps.map fun p => ⟨p.1.toNat, p.2.toNat⟩, decide (wrap = 1)⟩
       let written : State :=
         ((s.answered (okReply tag [])).setRotation
           { s.rotation with lists := s.rotation.lists.set l new }).setArchive { s.archive with dirty := true }
       (s.rotation.active ≠ l → exec c s = .next written) ∧
       (s.rotation.active = l → exec c s = .next (written.reseat l).recompute))) ∧
   (∀ (tag list : Byte) (s : State), s.HasHanded (.selectList tag list) →
     (3 < list.toNat → exec (.selectList tag list) s = .next (s.answered (refusal tag .badField))) ∧
     (∀ l : Fin 4, list.toNat = l.val →
       let t := (s.reseat l).recompute
       exec (.selectList tag list) s =
         .next (((s.answered (okReply tag
           [byteOf t.rotation.state.code, partByte (t.rotation.seat.map Seat.cursor)])).reseat l).recompute)))) ∧
  ((∀ (tag : Byte) (s : State), s.HasHanded (.pauseRotation tag) →
     exec (.pauseRotation tag) s =
       .next ((s.answered (okReply tag [])).setRotation { s.rotation with paused := true })) ∧
   (∀ (tag : Byte) (s : State), s.HasHanded (.resumeRotation tag) →
     exec (.resumeRotation tag) s =
       .next ((s.answered (okReply tag [])).setRotation { s.rotation with paused := false })) ∧
   (∀ (tag list : Byte) (s : State), s.HasHanded (.getList tag list) →
     (3 < list.toNat → exec (.getList tag list) s = .next (s.answered (refusal tag .badField))) ∧
     (∀ l : Fin 4, list.toNat = l.val →
       let x := s.rotation.lists[l]
       exec (.getList tag list) s =
         .next (s.answered (okReply tag
           ((if x.wrapFlag = true then 1 else 0) :: byteOf x.steps.length ::
             x.steps.flatMap fun step => [byteOf step.page, byteOf step.dwell]))))))

/-- An owed second tick at the rotation: a RUNNING rotation takes 1 from the remaining dwell, at its end moves to the next present
step in cyclic order with its full dwell and reports a wrap, and in any other state nothing changes; the advance command acts only
on the ending tick (R66, R67, R94; the last is the model's choice, log entry 5). -/
def Obligations.DwellCountsAndAdvances : Prop :=
  ∀ s : State,
    let taken := s.setOwed { s.owed with rotation := s.owed.rotation - 1 }
    let r := s.rotation
    let steps := r.activeList.steps
    (s.owed.rotation = 0 → exec .dwellCount s = .next s ∧ exec .rotationAdvance s = .next s) ∧
    (0 < s.owed.rotation → r.seat = none ∨ r.paused = true →
      exec .dwellCount s = .next taken ∧ exec .rotationAdvance s = .next s) ∧
    (∀ seat, 0 < s.owed.rotation → r.paused = false → r.seat = some seat → 1 < seat.remaining →
      exec .dwellCount s = .next (taken.setRotation { r with seat := some ⟨seat.cursor, seat.remaining - 1⟩ }) ∧
      exec .rotationAdvance s = .next s) ∧
    (∀ (seat : Seat) (d : Nat) (step : Step), 0 < s.owed.rotation → r.paused = false → r.seat = some seat →
      seat.remaining ≤ 1 → seat.cursor < steps.length → 1 ≤ d → d ≤ steps.length →
      steps[(seat.cursor + d) % steps.length]? = some step → s.findPage step.page ≠ none →
      (∀ e x, 1 ≤ e → e < d → steps[(seat.cursor + e) % steps.length]? = some x → s.findPage x.page = none) →
      let j := (seat.cursor + d) % steps.length
      let moved := taken.setRotation { r with seat := some ⟨j, step.dwell⟩ }
      let wrapped := if j ≤ seat.cursor ∧ r.activeList.wrapFlag = true then
        moved.offer .listWrapped r.active.val 0 else moved
      exec .dwellCount s = .next wrapped.recompute ∧ exec .rotationAdvance s = .next wrapped.recompute)

/-! ## Override stack and selection -/

/-- SHOW_NOW refuses in the order of R76; otherwise the record of the page's identity is replaced, or a new one joins the end, in a
full stack over the oldest record of the lowest priority, which is evicted (R76, R77, R78). -/
def Obligations.ShowNowReplacesCreatesOrEvicts : Prop :=
  ∀ (tag page priority : Byte) (duration : Half) (s : State), s.HasHanded (.showNow tag page priority duration) →
    let c : Instr := .showNow tag page priority duration
    let inRange := page ≠ 0 ∧ page ≠ 255 ∧ 1 ≤ priority.toNat ∧ priority.toNat ≤ 7
    let present := s.findPage page.toNat ≠ none
    let old := s.stack.records
    let stands := ∃ o ∈ old, o.identity = .host page.toNat
    let new : Override := ⟨.host page.toNat, page.toNat, priority.toNat,
      if duration = 0 then none else some duration.toNat⟩
    let took (records : List Override) (reply : List Byte) : State :=
      (s.answered (okReply tag reply)).setStack { s.stack with records := records }
    (¬inRange → exec c s = .next (s.answered (refusal tag .badField))) ∧
    (inRange → ¬present → exec c s = .next (s.answered (refusal tag .noSuch))) ∧
    (inRange → present → stands →
      let records := old.filter (fun o => o.identity != .host page.toNat) ++ [new]
      exec c s = .next (took records [1, byteOf records.length]).recompute) ∧
    (inRange → present → ¬stands → old.length < 6 →
      exec c s = .next (took (old ++ [new]) [0, byteOf (old.length + 1)]).recompute) ∧
    (inRange → present → ¬stands → 6 ≤ old.length → (∀ o ∈ old, o.priority ≤ 7) →
      (∃ o ∈ old, o.priority < priority.toNat) →
      ∃ before victim after, old = before ++ victim :: after ∧
        (∀ o ∈ old, victim.priority ≤ o.priority) ∧ (∀ o ∈ before, victim.priority < o.priority) ∧
        exec c s =
          .next (((took (before ++ after ++ [new]) [2, byteOf old.length, byteOf victim.page]).offer
            .overrideEnded victim.page 4).recompute)) ∧
    (inRange → present → ¬stands → 6 ≤ old.length → (∀ o ∈ old, priority.toNat ≤ o.priority) →
      exec c s = .next (s.answered (refusal tag .noRoom)))

/-- CLEAR_OVERRIDE removes the HOST record of a page and CLEAR_BELOW every record at or below a priority, each record with
OVERRIDE_ENDED, detail 2, in age order before the selection is recomputed; the second reply counts them (R81, R83). LIST_OVERRIDES
returns the records in age order with the place of the selected one, the first that bears the selected identity (R87). -/
def Obligations.OverrideListRequests : Prop :=
  (∀ (tag operand : Byte) (s : State),
     let ended (gone : Override → Bool) (reply : List Byte) : State :=
       ((s.stack.records.filter gone).foldl (fun t o => t.offer .overrideEnded o.page 2)
         ((s.answered (okReply tag reply)).setStack
           { s.stack with records := s.stack.records.filter fun o => !gone o })).recompute
     (s.HasHanded (.clearOverride tag operand) →
       let c : Instr := .clearOverride tag operand
       let stands := ∃ o ∈ s.stack.records, o.identity = .host operand.toNat
       (operand = 0 ∨ operand = 255 → exec c s = .next (s.answered (refusal tag .badField))) ∧
       (operand ≠ 0 → operand ≠ 255 → ¬stands → exec c s = .next (s.answered (refusal tag .noSuch))) ∧
       (operand ≠ 0 → operand ≠ 255 → stands →
         exec c s = .next (ended (fun o => o.identity == .host operand.toNat) []))) ∧
     (s.HasHanded (.clearBelow tag operand) →
       let c : Instr := .clearBelow tag operand
       (operand = 0 ∨ 7 < operand.toNat → exec c s = .next (s.answered (refusal tag .badField))) ∧
       (operand ≠ 0 → operand.toNat ≤ 7 →
         exec c s = .next (ended (fun o => decide (o.priority ≤ operand.toNat))
           [byteOf (s.stack.records.filter fun o => decide (o.priority ≤ operand.toNat)).length])))) ∧
  (∀ (tag : Byte) (s : State), s.HasHanded (.listOverrides tag) →
     let rows := s.stack.records.flatMap fun o =>
       (match o.identity with
         | .schedule slot => [0, byteOf slot]
         | .host _ => [1, 0])
       ++ [byteOf o.page, byteOf o.priority] ++ twoBytes (o.remaining.getD 0)
     (s.stack.selection.record = none →
       exec (.listOverrides tag) s =
         .next (s.answered (okReply tag (byteOf s.stack.records.length :: 0xFF :: rows)))) ∧
     (∀ before o after, s.stack.records = before ++ o :: after → s.stack.selection.record = some o.identity →
       (∀ x ∈ before, x.identity ≠ o.identity) →
       exec (.listOverrides tag) s =
         .next (s.answered (okReply tag (byteOf s.stack.records.length :: byteOf before.length :: rows)))))

/-- An owed second tick takes 1 from every timed record, removes those that reach 0, each with OVERRIDE_ENDED, detail 1, in age
order, and recomputes the selection once where one expired; the expiry command acts only on such a tick (R80, R94; the last is the
model's choice, log entry 5). -/
def Obligations.OverridesCountDown : Prop :=
  ∀ s : State,
    let taken := s.setOwed { s.owed with stack := s.owed.stack - 1 }
    let dying (o : Override) : Bool := o.remaining.any fun r => decide (r ≤ 1)
    let kept := (s.stack.records.filter fun o => !dying o).map fun o =>
      { o with remaining := o.remaining.map fun r => r - 1 }
    let counted := (s.stack.records.filter dying).foldl (fun t o => t.offer .overrideEnded o.page 1)
      (taken.setStack { s.stack with records := kept })
    let due := ∃ o ∈ s.stack.records, dying o = true
    (s.owed.stack = 0 → exec .overrideCountdown s = .next s ∧ exec .overrideExpiry s = .next s) ∧
    (0 < s.owed.stack → ¬due →
      exec .overrideCountdown s = .next counted ∧ exec .overrideExpiry s = .next s) ∧
    (0 < s.owed.stack → due →
      exec .overrideCountdown s = .next counted.recompute ∧ exec .overrideExpiry s = .next counted.recompute)

/-- The selection computed is the record of the highest priority, the newest among equals, otherwise the rotation's page, otherwise
none, and SELECTION is offered when the page or the source changes (R88, R89, R90). -/
def Obligations.SelectionIsTheTopRecord : Prop :=
  ∀ s : State,
    let new := s.recompute.stack.selection
    let old := s.stack.selection
    (∀ before o after, s.stack.records = before ++ o :: after →
      (∀ x ∈ before, x.priority ≤ o.priority) → (∀ x ∈ after, x.priority < o.priority) →
      new = ⟨some o.page, .override, some o.identity⟩) ∧
    (∀ seat step, s.stack.records = [] → s.rotation.seat = some seat →
      s.rotation.activeList.steps[seat.cursor]? = some step → new = ⟨some step.page, .rotation, none⟩) ∧
    (s.stack.records = [] → s.rotation.seat = none → new = ⟨none, .blank, none⟩) ∧
    (new.page = old.page ∧ new.source = old.source →
      s.recompute = s.setStack { s.stack with selection := new }) ∧
    (¬(new.page = old.page ∧ new.source = old.source) →
      s.recompute = (s.setStack { s.stack with selection := new }).offer .selection (new.page.getD 0) new.source.code)

/-! ## Schedule -/

/-- The schedule takes a minute start whole before a slot request or a SAVE that is accepted: an unfinished walk is completed first,
and the request acts on what it left (R125, R136). One that is refused leaves the walk and all else as it stands (R167). That the
hand-off commands may leave a walk unfinished is the model's choice (log entries 9 and 11). -/
def Obligations.SlotRequestsFollowTheWalk : Prop :=
  ∀ (tag slot minute hour day weekdays month flags action arg1 arg2 : Byte) (duration : Half) (s : State) (c : Instr),
    c ∈ [Instr.setEntry tag slot minute hour day weekdays month flags action arg1 arg2 duration, .clearEntry tag slot,
      .armEntry tag slot, .disarmEntry tag slot, .getEntry tag slot, .save tag] → s.HasHanded c →
    let done := s.finishWalk
    let refuses (result : Result) : Prop := result ≠ .ok ∧ exec c done = .next (done.answered (refusal tag result))
    (∀ result, refuses result → exec c s = .next (s.answered (refusal tag result))) ∧
    ((∀ result, ¬refuses result) → exec c s = exec c done) ∧
    done.schedule.walk = [] ∧ done.schedule.minuteStarts = s.schedule.minuteStarts ∧ done.link = s.link ∧
    (s.schedule.walk = [] → done = s) ∧
    (s.schedule.walk ≠ [] → exec .minuteStart s = .next done)

/-- SET_ENTRY refuses an entry out of range or one that can never match, then a busy archive; otherwise the slot is ARMED with the
entry carried, which reads back byte for byte (R112, R113, R114). -/
def Obligations.SetEntryArmsTheSlot : Prop :=
  ∀ (tag slot minute hour day weekdays month flags action arg1 arg2 : Byte) (duration : Half) (s : State),
    s.HasHanded (.setEntry tag slot minute hour day weekdays month flags action arg1 arg2 duration) →
    s.schedule.walk = [] →
    let c : Instr := .setEntry tag slot minute hour day weekdays month flags action arg1 arg2 duration
    let part (lo hi : Nat) (x : Byte) : Prop := x = 0xFF ∨ lo ≤ x.toNat ∧ x.toNat ≤ hi
    let longest : List Nat := [31, 29, 31, 30, 31, 30, 31, 31, 30, 31, 30, 31]
    let arguments : Prop :=
      (action = 1 ∧ 1 ≤ arg1.toNat ∧ arg1.toNat ≤ 254 ∧ 1 ≤ arg2.toNat ∧ arg2.toNat ≤ 7) ∨
      (action = 2 ∧ arg1.toNat ≤ 3 ∧ arg2 = 0 ∧ duration = 0) ∨
      (action = 3 ∧ 1 ≤ arg1.toNat ∧ arg1.toNat ≤ 7 ∧ arg2 = 0 ∧ duration = 0) ∨
      (action = 4 ∧ arg1.toNat ≤ 3 ∧ arg2 = 0 ∧ duration = 0)
    let good := part 0 59 minute ∧ part 0 23 hour ∧ part 1 31 day ∧ weekdays.toNat < 128 ∧ part 1 12 month ∧
      (day ≠ 0xFF → weekdays = 0) ∧ flags.toNat < 4 ∧ arguments ∧
      (day ≠ 0xFF → month ≠ 0xFF → day.toNat ≤ longest[month.toNat - 1]?.getD 0)
    (31 < slot.toNat ∨ ¬good → exec c s = .next (s.answered (refusal tag .badField))) ∧
    (slot.toNat ≤ 31 → good → s.archive.op ≠ .none →
      exec c s = .next (s.answered (refusal tag .archiveBusy))) ∧
    (∀ i : Fin 32, slot.toNat = i.val → good → s.archive.op = .none →
      ∃ e : Entry,
        slotBytes (.holds .armed e) =
          [1, minute, hour, day, weekdays, month, flags, action, arg1, arg2, duration.extractLsb' 0 8,
            duration.extractLsb' 8 8] ∧
        exec c s =
          .next (((s.answered (okReply tag [])).setSchedule
            { s.schedule with slots := s.schedule.slots.set i (.holds .armed e) }).setArchive
            { s.archive with dirty := true }))

/-- CLEAR_ENTRY, ARM_ENTRY and DISARM_ENTRY refuse a bad slot number, a busy archive and, the last two, a FREE slot in this order,
and otherwise make the slot FREE, ARMED or DISARMED and set the dirty flag; GET_ENTRY reads the slot (R115, R116, R117). -/
def Obligations.SlotRequestsChangeTheirSlot : Prop :=
  ∀ (tag slot : Byte) (s : State), s.schedule.walk = [] →
    let took (i : Fin 32) (x : Slot) : State :=
      ((s.answered (okReply tag [])).setSchedule
        { s.schedule with slots := s.schedule.slots.set i x }).setArchive { s.archive with dirty := true }
    (s.HasHanded (.clearEntry tag slot) →
      (31 < slot.toNat → exec (.clearEntry tag slot) s = .next (s.answered (refusal tag .badField))) ∧
      (slot.toNat ≤ 31 → s.archive.op ≠ .none →
        exec (.clearEntry tag slot) s = .next (s.answered (refusal tag .archiveBusy))) ∧
      (∀ i : Fin 32, slot.toNat = i.val → s.archive.op = .none →
        exec (.clearEntry tag slot) s = .next (took i .free))) ∧
    (∀ (c : Instr) (new : Arming), c = .armEntry tag slot ∧ new = .armed ∨ c = .disarmEntry tag slot ∧ new = .disarmed →
      s.HasHanded c →
      (31 < slot.toNat → exec c s = .next (s.answered (refusal tag .badField))) ∧
      (slot.toNat ≤ 31 → s.archive.op ≠ .none → exec c s = .next (s.answered (refusal tag .archiveBusy))) ∧
      (∀ i : Fin 32, slot.toNat = i.val → s.archive.op = .none → s.schedule.slots[i] = .free →
        exec c s = .next (s.answered (refusal tag .noSuch))) ∧
      (∀ (i : Fin 32) (arming : Arming) (e : Entry), slot.toNat = i.val → s.archive.op = .none →
        s.schedule.slots[i] = .holds arming e → exec c s = .next (took i (.holds new e)))) ∧
    (s.HasHanded (.getEntry tag slot) →
      (31 < slot.toNat → exec (.getEntry tag slot) s = .next (s.answered (refusal tag .badField))) ∧
      (∀ i : Fin 32, slot.toNat = i.val →
        exec (.getEntry tag slot) s = .next (s.answered (okReply tag (slotBytes s.schedule.slots[i])))))

/-- The firings of a minute start are those of the ARMED slots whose four pattern parts match its values, in ascending slot order
(R118, R119). MINUTE_START of a RUNNING calendar takes the oldest minute start and completes its firings one after another, each with
its action on what the earlier ones have left, then its report, then its SPENT marking (R119 to R123); of a walk that a hand-off command
has begun it completes what is left (the model's choice, log entry 11). While the calendar is not RUNNING no entry fires (R126), and
what waits is dropped, in states that no run reaches (log entry 26). `takeWaiting` is MINUTE_START until nothing waits. -/
def Obligations.MinuteStartFiresArmedMatches : Prop :=
  let acted (t : State) (f : Firing) : State := match f.entry.action with
    | .showPage page priority duration => t.takeShow f.slot page priority duration
    | .selectList list => (t.reseat list).recompute
    | .clearBelow priority => ((t.stack.records.filter fun o => decide (o.priority ≤ priority)).foldl
        (fun u o => u.offer .overrideEnded o.page 2)
        (t.setStack { t.stack with records := t.stack.records.filter fun o => decide (priority < o.priority) })).recompute
    | .display mode => t.setFrame { t.frame with display := { t.frame.display with mode := mode } }
  let reported (t : State) (f : Firing) : State :=
    if f.entry.report = true then
      t.offerStamped (some ⟨f.start.hour, f.start.minute⟩) .entryFired f.slot (match f.entry.action with
        | .showPage _ _ _ => 1
        | .selectList _ => 2
        | .clearBelow _ => 3
        | .display _ => 4)
    else t
  let spent (t : State) (f : Firing) : State :=
    if f.entry.once = true then
      (t.setSchedule
        { t.schedule with slots := t.schedule.slots.setIfInBounds f.slot (.holds .spent f.entry) }).setArchive
        { t.archive with dirty := true }
    else t
  let fired (t : State) (f : Firing) : State := spent (reported (acted t f) f) f
  (∀ (sc : Schedule) (m : MinuteStart),
     ((sc.firings m).map Firing.slot).Pairwise (· < ·) ∧
     ∀ f : Firing, f ∈ sc.firings m ↔
       f.start = m ∧ sc.slots[f.slot]? = some (.holds .armed f.entry) ∧
       (∀ x, f.entry.pattern.minute = some x → x = m.minute) ∧ (∀ x, f.entry.pattern.hour = some x → x = m.hour) ∧
       (∀ x, f.entry.pattern.day = .dayOfMonth x → x = m.day) ∧
       (∀ set, f.entry.pattern.day = .weekdays set → set.getLsbD m.weekday = true) ∧
       (∀ x, f.entry.pattern.month = some x → x = m.month)) ∧
  (∀ s : State, s.calendar.state = .running →
     (∀ m rest, s.schedule.walk = [] → s.schedule.minuteStarts = m :: rest →
       exec .minuteStart s =
         .next ((s.schedule.firings m).foldl fired (s.setSchedule { s.schedule with minuteStarts := rest }))) ∧
     (s.schedule.walk ≠ [] →
       exec .minuteStart s = .next (s.schedule.walk.foldl fired (s.setSchedule { s.schedule with walk := [] })))) ∧
  (∀ s : State, s.calendar.state ≠ .running →
     exec .minuteStart s = .next (s.setSchedule
       { s.schedule with
         walk := []
         minuteStarts := if s.schedule.walk = [] then s.schedule.minuteStarts.drop 1 else s.schedule.minuteStarts })) ∧
  (∀ s : State,
     (s.schedule.walk = [] → s.schedule.minuteStarts = [] → exec .minuteStart s = .next s ∧ s.takeWaiting = s) ∧
     (∀ t, exec .minuteStart s = .next t → s.takeWaiting = t.takeWaiting))

/-- A SHOW hand-off settles by the table of R79: an absent page is reported, the slot's record is replaced, a new one joins the end,
evicts the oldest of the lowest priority, or is refused with a report. -/
def Obligations.ScheduleShowSettlesByTheTable : Prop :=
  ∀ (s : State) (slot page priority duration : Nat),
    let old := s.stack.records
    let new : Override := ⟨.schedule slot, page, priority, if duration = 0 then none else some duration⟩
    let stands := ∃ o ∈ old, o.identity = .schedule slot
    let took (records : List Override) : State := s.setStack { s.stack with records := records }
    (s.findPage page = none → s.takeShow slot page priority duration = s.offer .pageMissing page slot) ∧
    (s.findPage page ≠ none →
      (stands →
        s.takeShow slot page priority duration =
          (took (old.filter (fun o => o.identity != .schedule slot) ++ [new])).recompute) ∧
      (¬stands → old.length < 6 → s.takeShow slot page priority duration = (took (old ++ [new])).recompute) ∧
      (¬stands → 6 ≤ old.length → (∀ o ∈ old, o.priority ≤ 7) → (∃ o ∈ old, o.priority < priority) →
        ∃ before victim after, old = before ++ victim :: after ∧
          (∀ o ∈ old, victim.priority ≤ o.priority) ∧ (∀ o ∈ before, victim.priority < o.priority) ∧
          s.takeShow slot page priority duration =
            ((took (before ++ after ++ [new])).offer .overrideEnded victim.page 4).recompute) ∧
      (¬stands → 6 ≤ old.length → priority ≤ 7 → (∀ o ∈ old, priority ≤ o.priority) →
        s.takeShow slot page priority duration = s.offer .overrideRefused slot page))

/-- A hand-off command completes the next firing when its action is the one it names: the owner acts first, then ENTRY_FIRED with
the minute start's stamp, then SPENT; with no such firing due, or a calendar that is not RUNNING, it changes nothing (R47, R65, R79,
R83, R119 to R122, R126; that a hand-off is a command of its own is the model's choice, log entries 5, 11 and 13). -/
def Obligations.HandOffsCompleteTheNextFiring : Prop :=
  (∀ (s : State) (f : Firing) (rest : List Firing) (more : List MinuteStart), s.calendar.state = .running →
    (s.schedule.walk = f :: rest ∧ more = s.schedule.minuteStarts) ∨
      (s.schedule.walk = [] ∧ ∃ m, s.schedule.minuteStarts = m :: more ∧ s.schedule.firings m = f :: rest) →
    let base := s.setSchedule { s.schedule with walk := rest, minuteStarts := more }
    let noted (code : Nat) (t : State) : State :=
      let t1 := if f.entry.report = true then
        t.offerStamped (some ⟨f.start.hour, f.start.minute⟩) .entryFired f.slot code else t
      if f.entry.once = true then
        (t1.setSchedule
          { t1.schedule with slots := t1.schedule.slots.setIfInBounds f.slot (.holds .spent f.entry) }).setArchive
          { t1.archive with dirty := true }
      else t1
    (∀ (slot page priority : Byte) (duration : Half),
      let due := f.slot = slot.toNat ∧ f.entry.action = .showPage page.toNat priority.toNat duration.toNat
      (due → exec (.scheduleShow slot page priority duration) s =
        .next (noted 1 (base.takeShow slot.toNat page.toNat priority.toNat duration.toNat))) ∧
      (¬due → exec (.scheduleShow slot page priority duration) s = .next s)) ∧
    (∀ list : Byte,
      (∀ l : Fin 4, f.entry.action = .selectList l → list.toNat = l.val →
        exec (.scheduleSelect list) s = .next (noted 2 (base.reseat l).recompute)) ∧
      ((∀ l : Fin 4, f.entry.action = .selectList l → list.toNat ≠ l.val) →
        exec (.scheduleSelect list) s = .next s)) ∧
    (∀ priority : Byte,
      (f.entry.action = .clearBelow priority.toNat →
        exec (.scheduleClearBelow priority) s =
          .next (noted 3 ((s.stack.records.filter fun o => decide (o.priority ≤ priority.toNat)).foldl
            (fun t o => t.offer .overrideEnded o.page 2)
            (base.setStack { s.stack with
              records := s.stack.records.filter fun o => decide (priority.toNat < o.priority) })).recompute)) ∧
      (f.entry.action ≠ .clearBelow priority.toNat → exec (.scheduleClearBelow priority) s = .next s)) ∧
    (∀ mode : Byte,
      (∀ m : Mode, f.entry.action = .display m → mode.toNat = m.code →
        exec (.scheduleDisplay mode) s =
          .next (noted 4 (base.setFrame { s.frame with display := { s.frame.display with mode := m } }))) ∧
      ((∀ m : Mode, f.entry.action = .display m → mode.toNat ≠ m.code) →
        exec (.scheduleDisplay mode) s = .next s))) ∧
  (∀ (s : State) (c : Instr) (slot page priority list mode : Byte) (duration : Half),
    c ∈ [Instr.scheduleShow slot page priority duration, .scheduleSelect list, .scheduleClearBelow priority,
      .scheduleDisplay mode] →
    s.calendar.state ≠ .running ∨
      (s.schedule.walk = [] ∧ ∀ m ∈ s.schedule.minuteStarts.head?, s.schedule.firings m = []) → exec c s = .next s)

/-! ## Archive -/

/-- SAVE refuses in the order of R134; otherwise it snapshots the stored collections, clears the dirty flag, begins writing the
target bank R135 chooses and gives no reply yet. RESTORE refuses in the order of R138 and otherwise reads the current bank. The
snapshot is a copy of the six stored collections as they stand, without set overflow latches (R1, R129, R135). -/
def Obligations.SaveAndRestoreBegin : Prop :=
  (∀ s : State, s.snapshot =
    { glass := s.frame.glass
      cells := s.cells.table
      pages := s.store.pages.map fun p => { p with latches := Vector.replicate 4 false }
      lists := s.rotation.lists
      slots := s.schedule.slots
      startup := s.archive.startup }) ∧
  (∀ (tag : Byte) (s : State), s.schedule.walk = [] →
    let a := s.archive
    let free := a.op = .none ∧ s.store.commits = []
    let refused (c : Instr) : Prop :=
      (a.op ≠ .none → exec c s = .next (s.answered (refusal tag .archiveBusy))) ∧
      (a.op = .none → s.store.commits ≠ [] → exec c s = .next (s.answered (refusal tag .wrongState)))
    let newest := max (a.recordA.getD 0) (a.recordB.getD 0)
    let toA (n : Nat) : Prop := exec (.save tag) s = .next (s.deferred.setArchive
      { a with bankA := .unmarked, recordA := none, dirty := false, op := .save .a n s.snapshot tag })
    let toB (n : Nat) : Prop := exec (.save tag) s = .next (s.deferred.setArchive
      { a with bankB := .unmarked, recordB := none, dirty := false, op := .save .b n s.snapshot tag })
    let reads (bank : BankId) : Prop := exec (.restore tag) s = .next (s.deferred.setArchive
      { a with op := .restore bank tag })
    (s.HasHanded (.save tag) →
      refused (.save tag) ∧
      (free → newest = 4294967295 → exec (.save tag) s = .next (s.answered (refusal tag .noRoom))) ∧
      (free → newest ≠ 4294967295 →
        (a.recordA = none → a.recordB = none → toA 1) ∧
        (∀ n, a.recordA = some n → a.recordB = none → toB (n + 1)) ∧
        (∀ n, a.recordA = none → a.recordB = some n → toA (n + 1)) ∧
        (∀ m n, a.recordA = some m → a.recordB = some n → m < n → toA (n + 1)) ∧
        (∀ m n, a.recordA = some m → a.recordB = some n → n < m → toB (m + 1)))) ∧
    (s.HasHanded (.restore tag) →
      refused (.restore tag) ∧
      (free → a.recordA = none → a.recordB = none →
        exec (.restore tag) s = .next (s.answered (refusal tag .noSuch))) ∧
      (free →
        (∀ n, a.recordA = some n → a.recordB = none → reads .a) ∧
        (∀ n, a.recordA = none → a.recordB = some n → reads .b) ∧
        (∀ m n, a.recordA = some m → a.recordB = some n → m < n → reads .b) ∧
        (∀ m n, a.recordA = some m → a.recordB = some n → n < m → reads .a))))

/-- A save that verifies leaves the target bank valid with the snapshot and its number and answers OK; one that does not leaves it
without a marker, sets the dirty flag and answers FAILED (R137). A fault of a bank's memory leaves its marker with an image that
disagrees with its check value and its validity record as it was (R133; log entries 5 and 12). -/
def Obligations.SaveEndsAndBankFaults : Prop :=
  (∀ s : State,
     (∀ (n : Nat) (image : Collections) (tag : Byte), s.archive.op = .save .a n image tag →
       exec (.saveEnd true) s =
         .next ((s.setArchive
           { s.archive with bankA := .marked n image true, recordA := some n, op := .none }).reply
             (okReply tag (0 :: fourBytes n))) ∧
       exec (.saveEnd false) s =
         .next ((s.setArchive
           { s.archive with bankA := .unmarked, recordA := none, op := .none, dirty := true }).reply
             (refusal tag .failed))) ∧
     (∀ (n : Nat) (image : Collections) (tag : Byte), s.archive.op = .save .b n image tag →
       exec (.saveEnd true) s =
         .next ((s.setArchive
           { s.archive with bankB := .marked n image true, recordB := some n, op := .none }).reply
             (okReply tag (1 :: fourBytes n))) ∧
       exec (.saveEnd false) s =
         .next ((s.setArchive
           { s.archive with bankB := .unmarked, recordB := none, op := .none, dirty := true }).reply
             (refusal tag .failed))) ∧
     (∀ verified : Bool, s.archive.op.code ≠ 1 → exec (.saveEnd verified) s = .next s)) ∧
  (∀ (s : State) (sequence : Quad),
     (∀ n image agrees, s.archive.bankA = .marked n image agrees →
       exec (.bankDamaged .a sequence) s =
         .next (s.setArchive { s.archive with bankA := .marked sequence.toNat image false })) ∧
     (∀ n image agrees, s.archive.bankB = .marked n image agrees →
       exec (.bankDamaged .b sequence) s =
         .next (s.setArchive { s.archive with bankB := .marked sequence.toNat image false })) ∧
     (s.archive.bankA = .unmarked → exec (.bankDamaged .a sequence) s = .next s) ∧
     (s.archive.bankB = .unmarked → exec (.bankDamaged .b sequence) s = .next s))

/-- A restore whose check passes installs the six collections, frees the drafts in number order, empties the stack in age order,
re-seats on the installed start list, recomputes the selection and answers with the bank and its number, each step with its reports
(R140); one whose check fails changes nothing and answers FAILED. A passing one follows an unfinished walk (log entry 9). -/
def Obligations.RestoreInstallsTheImage : Prop :=
  ∀ (s : State) (bank : BankId) (tag : Byte), s.archive.op = .restore bank tag →
    (∀ (n : Nat) (image : Collections), s.archive.content bank = .marked n image true →
      s.archive.record bank = some n → image.Ok →
      let w := s.finishWalk
      let freed (x : Draft) : Draft := match x with
        | .editing _ _ => .free
        | other => other
      let ended (u : State) (x : Draft) : State := match x with
        | .editing body _ => u.offer .draftEnded body.target 2
        | _ => u
      let installed : State :=
        { w with
          frame := { w.frame with glass := image.glass }
          cells := { w.cells with table := image.cells }
          store := { w.store with
            pages := image.pages.map Page.unlatched, drafts := #v[freed w.store.drafts[0], freed w.store.drafts[1]] }
          rotation := { w.rotation with lists := image.lists }
          schedule := { w.schedule with slots := image.slots }
          archive := { w.archive with startup := image.startup } }
      let emptied := w.stack.records.foldl (fun u o => u.offer .overrideEnded o.page 5)
        ((ended (ended installed w.store.drafts[0]) w.store.drafts[1]).setStack { w.stack with records := [] })
      let seated := (emptied.reseat image.startup.list).recompute
      exec .restoreComplete s =
        .next ((seated.setArchive { seated.archive with dirty := false, op := .none }).reply
          (okReply tag (byteOf (bankCode bank) :: fourBytes n))) ∧
      ∃ t, exec .restoreComplete s = .next t ∧
        t.frame = { w.frame with glass := image.glass } ∧
        t.cells = { s.cells with table := image.cells } ∧
        t.store.pages = image.pages.map Page.unlatched ∧ t.store.commits = s.store.commits ∧
        (∀ d : Fin 2, t.store.drafts[d] = freed s.store.drafts[d]) ∧
        t.rotation.lists = image.lists ∧ t.rotation.active = image.startup.list ∧
        t.rotation.paused = w.rotation.paused ∧ t.SeatOk ∧
        t.stack = ⟨[], selectionOf [] t.rotation.currentPage⟩ ∧
        t.schedule = { w.schedule with slots := image.slots } ∧
        t.archive = { w.archive with startup := image.startup, dirty := false, op := .none } ∧
        t.link = (s.reply (okReply tag (byteOf (bankCode bank) :: fourBytes n))).link ∧
        t.calendar = s.calendar ∧ t.owed = s.owed ∧ t.phase = s.phase) ∧
    ((∀ (n : Nat) (image : Collections), s.archive.content bank ≠ .marked n image true) →
      exec .restoreComplete s =
        .next ((s.setArchive { s.archive with op := .none }).reply (refusal tag .failed)))

/-- SET_STARTUP writes the startup record alone, after its range checks and the busy check (R131); ARCHIVE_INFO reads both validity
records, the current bank, the dirty flag, the operation and the startup record (R144). That a validity byte is 1 for a valid bank and
0 for an invalid one is the model's choice (log entry 27). Where both records show one number, which no run from reset reaches, the
current bank read is A: the model's choice (log entry 22). -/
def Obligations.StartupRecordAndArchiveInfo : Prop :=
  (∀ (tag list mode contrast attn : Byte) (mask : Half) (s : State),
    s.HasHanded (.setStartup tag list mode contrast mask attn) →
    let c : Instr := .setStartup tag list mode contrast mask attn
    let good := list.toNat ≤ 3 ∧ mode.toNat ≤ 3 ∧ contrast.toNat ≤ 15 ∧ attn.toNat ≤ 1
    (¬good → exec c s = .next (s.answered (refusal tag .badField))) ∧
    (good → s.archive.op ≠ .none → exec c s = .next (s.answered (refusal tag .archiveBusy))) ∧
    (∀ (l : Fin 4) (m : Mode), list.toNat = l.val → mode.toNat = m.code → good → s.archive.op = .none →
      exec c s =
        .next ((s.answered (okReply tag [])).setArchive
          { s.archive with startup := ⟨l, m, contrast.toNat, mask, decide (attn = 1)⟩, dirty := true }))) ∧
  (∀ (tag : Byte) (s : State), s.HasHanded (.archiveInfo tag) →
    let a := s.archive
    let row (r : Option Nat) : List Byte := match r with
      | some n => 1 :: fourBytes n
      | none => [0, 0, 0, 0, 0]
    let current : Byte := match a.recordA, a.recordB with
      | none, none => 0xFF
      | some _, none => 0
      | none, some _ => 1
      | some m, some n => if m < n then 1 else 0
    let operation : List Byte := match a.op with
      | .none => [0, 0xFF]
      | .save .a _ _ _ => [1, 0]
      | .save .b _ _ _ => [1, 1]
      | .restore _ _ => [2, 0xFF]
    exec (.archiveInfo tag) s =
      .next (s.answered (okReply tag
        (row a.recordA ++ row a.recordB ++ [current, if a.dirty = true then 1 else 0] ++ operation ++
          [byteOf a.startup.list.val, byteOf a.startup.mode.code, byteOf a.startup.contrast,
            a.startup.mask.extractLsb' 0 8, a.startup.mask.extractLsb' 8 8,
            if a.startup.attn = true then 1 else 0]))))

/-! ## Starts -/

/-- Power-on and a fall of RESETN begin a start: the live state is cleared, the banks' contents stand, and the calendar and the
crystal status begin afresh at a cold start and are kept at a warm one; the release of RESETN runs a HELD calendar with a prescaler
restart (R24, R95, R108, R143, R154, R156, R172; log entries 4, 5, 14, 19 and 20). -/
def Obligations.StartsClearTheLiveState : Prop :=
  (∀ (s : State) (baudHigh resetnHigh : Bool),
    ∃ t, exec (.powerOn baudHigh resetnHigh) s = .next t ∧
      t.phase = (if resetnHigh = true then .starting .powerOn else .resetHeld .powerOn) ∧ t.Cleared ∧
      t.link.speed = (if baudHigh = true then .baud115200 else .baud19200) ∧
      t.calendar = ⟨.stopped, ⟨2000, 1, 1, 0, 0, 0, 5⟩, .invalid, false, 0⟩ ∧ t.frame.blinkOn = true ∧
      t.cells.values = Vector.replicate 8 0 ∧ t.rotation.paused = false ∧ t.reports.lost = false ∧
      t.archive.bankA = s.archive.bankA ∧ t.archive.bankB = s.archive.bankB) ∧
  (∀ (s : State) (cause : Cause), s.phase = .resetHeld cause → exec .resetnFall s = .next s) ∧
  (∀ s : State, (∀ cause, s.phase ≠ .resetHeld cause) →
    ∃ t, exec .resetnFall s = .next t ∧ t.phase = .resetHeld .resetn ∧ t.Cleared ∧
      t.calendar = { s.calendar with sync := false } ∧ t.frame.blinkOn = s.frame.blinkOn ∧
      t.cells.values = Vector.replicate 8 0 ∧ t.rotation.paused = false ∧ t.reports.lost = false ∧
      t.link.speed = s.link.speed ∧ t.reports.aside = s.reports.aside ∧
      t.archive.bankA = s.archive.bankA ∧ t.archive.bankB = s.archive.bankB) ∧
  (∀ s : State,
    (∀ cause, s.phase = .resetHeld cause → (∀ timer, s.calendar.state ≠ .held timer) →
      exec .resetnRelease s = .next (s.setPhase (.starting cause))) ∧
    (∀ cause timer, s.phase = .resetHeld cause → s.calendar.state = .held timer →
      exec .resetnRelease s =
        .next (((s.setCalendar { s.calendar with state := .running, prescaler := 0 }).setFrame
          { s.frame with blinkOn := true, nextBoundary := s.frame.rate.period }).setPhase (.starting cause))) ∧
    ((∀ cause, s.phase ≠ .resetHeld cause) → exec .resetnRelease s = .next s))

/-- The end of start-up records each bank by its marker and its check, installs the current bank's collections or the factory
defaults, gives the live settings the startup record's values and lets the link listen (R45, R142, R151, R152, R172). The rotation is
re-seated on the start list: on its first step that names an installed page, with its full dwell, or with no seat where there is none,
and with the pause flag clear (R62, R73); with the stack empty, that page is selected (R88). -/
def Obligations.StartupInstallsTheCurrentBank : Prop :=
  ∀ (s : State) (cause : Cause), s.phase = .starting cause →
    let valid (x : BankContent) : Option Nat := match x with
      | .marked n _ true => some n
      | _ => none
    let a := valid s.archive.bankA
    let b := valid s.archive.bankB
    ∃ (t : State) (image : Collections), exec .startupComplete s = .next t ∧
      t.phase = .listening ∧ t.archive.recordA = a ∧ t.archive.recordB = b ∧
      t.archive.bankA = s.archive.bankA ∧ t.archive.bankB = s.archive.bankB ∧
      (∀ m i, s.archive.bankA = .marked m i true → (b = none ∨ ∃ n, b = some n ∧ n < m) →
        image = i ∧ t.archive.dirty = false) ∧
      (∀ n i, s.archive.bankB = .marked n i true → (a = none ∨ ∃ m, a = some m ∧ m < n) →
        image = i ∧ t.archive.dirty = false) ∧
      (a = none → b = none → image = Collections.factory ∧ t.archive.dirty = true) ∧
      t.frame.glass = image.glass ∧ t.cells.table = image.cells ∧ t.cells.values = s.cells.values ∧
      t.store.pages = image.pages.map Page.unlatched ∧ t.rotation.lists = image.lists ∧
      t.schedule.slots = image.slots ∧ t.archive.startup = image.startup ∧
      t.frame.display = ⟨image.startup.mode, false, image.startup.contrast, 0xFF⟩ ∧
      t.reports.mask = image.startup.mask ∧ t.reports.attnEnable = image.startup.attn ∧
      t.rotation.active = image.startup.list ∧
      (∀ before step after, image.lists[image.startup.list].steps = before ++ step :: after →
        (∀ x ∈ before, ∀ p ∈ image.pages, p.id ≠ x.page) → (∃ p ∈ image.pages, p.id = step.page) →
        t.rotation.seat = some ⟨before.length, step.dwell⟩ ∧
        (s.stack.records = [] → t.stack.selection = ⟨some step.page, .rotation, none⟩)) ∧
      ((∀ step ∈ image.lists[image.startup.list].steps, ∀ p ∈ image.pages, p.id ≠ step.page) →
        t.rotation.seat = none ∧ (s.stack.records = [] → t.stack.selection = ⟨none, .blank, none⟩)) ∧
      t.rotation.paused = s.rotation.paused ∧ (s.StartOk → t.rotation.paused = false ∧ s.stack.records = []) ∧
      t.stack.records = s.stack.records ∧
      t.stack.selection = selectionOf s.stack.records t.rotation.currentPage ∧
      t.calendar = s.calendar ∧ t.link = s.link

/-- STARTED is the first record after a start, whatever the mask, with the cause and the outcome of the start-up restore; where
every report held aside is enabled, they follow it in the order first offered (R142, R154, R155). With room for them, the reports held
aside whose kind the installed mask enables follow it, and then the re-seat's own report if its kind is enabled: SELECTION of the page
seated on, or LIST_STARVED of a list with steps that found none (R62, R73, R90, R154, R155). A report offered during a start is
held aside, coalescing with one of its kind and subject (R155); the list it joins, without a stamp yet, is the model's reading (log
entry 15). That the end of a start outside its interval changes nothing is the model's choice (log entry 5). -/
def Obligations.StartedIsTheFirstReport : Prop :=
  (∀ (s : State) (cause : Cause), s.phase = .starting cause → s.ReportsOk → s.StartOk →
    let number (x : BankContent) : Option (Nat × Bool) := match x with
      | .marked n _ agrees => some (n, agrees)
      | .unmarked => none
    let outcome : Nat := match number s.archive.bankA, number s.archive.bankB with
      | some (m, true), some (n, false) => if m < n then 1 else 0
      | some (m, false), some (n, true) => if n < m then 1 else 0
      | some (_, true), _ => 0
      | _, some (_, true) => 0
      | _, _ => 2
    ∃ (t : State) (rest : List Report), exec .startupComplete s = .next t ∧
      t.reports.records = ⟨.started, cause.code, outcome, 1, s.calendar.stamp⟩ :: rest ∧
      (s.reports.aside.length ≤ 15 → (∀ r ∈ s.reports.aside, t.reports.mask.getLsbD r.kind.code = true) →
        ∃ more, rest = s.reports.aside.map (fun r => { r with stamp := s.calendar.stamp }) ++ more) ∧
      (s.reports.aside.length ≤ 14 →
        let enabled (r : Report) : Bool := t.reports.mask.getLsbD r.kind.code
        let own : List Report := match t.rotation.currentPage with
          | some page => [⟨.selection, page, 1, 1, s.calendar.stamp⟩]
          | none =>
              if t.rotation.lists[t.rotation.active].steps = [] then []
              else [⟨.listStarved, t.rotation.active.val, 0, 1, s.calendar.stamp⟩]
        rest = (s.reports.aside.filter enabled).map (fun r => { r with stamp := s.calendar.stamp }) ++ own.filter enabled ∧
        t.reports.lost = false) ∧
      t.reports.attnLow = t.reports.attnEnable ∧ t.reports.aside = []) ∧
  (∀ (s : State) (k : Kind) (subject detail : Nat), s.phase ≠ .listening → s.ReportsOk →
    let q := s.reports
    (∀ i r, q.aside[i]? = some r → r.kind = k → r.subject = subject →
      s.offer k subject detail =
        s.setReports { q with aside := q.aside.set i { r with count := min 255 (r.count + 1), detail := detail } }) ∧
    ((∀ r ∈ q.aside, ¬(r.kind = k ∧ r.subject = subject)) →
      s.offer k subject detail = s.setReports { q with aside := q.aside ++ [⟨k, subject, detail, 1, none⟩] })) ∧
  (∀ s : State, (∀ cause, s.phase ≠ .starting cause) → exec .startupComplete s = .next s)
end

