-- ==== Sys2Proof/Laws/State.lean ====
section
/-! SUPPORT. What each named update of the state leaves in each field: one lemma per field per update. -/

namespace Sys2Proof.Machine

open Sys2Proof

/-! ### setPhase -/

@[simp] theorem State.setPhase_phase (s : State) (x : Phase) : (s.setPhase x).phase = x := rfl
@[simp] theorem State.setPhase_store (s : State) (x : Phase) : (s.setPhase x).store = s.store := rfl
@[simp] theorem State.setPhase_cells (s : State) (x : Phase) : (s.setPhase x).cells = s.cells := rfl
@[simp] theorem State.setPhase_frame (s : State) (x : Phase) : (s.setPhase x).frame = s.frame := rfl
@[simp] theorem State.setPhase_rotation (s : State) (x : Phase) : (s.setPhase x).rotation = s.rotation := rfl
@[simp] theorem State.setPhase_stack (s : State) (x : Phase) : (s.setPhase x).stack = s.stack := rfl
@[simp] theorem State.setPhase_calendar (s : State) (x : Phase) : (s.setPhase x).calendar = s.calendar := rfl
@[simp] theorem State.setPhase_schedule (s : State) (x : Phase) : (s.setPhase x).schedule = s.schedule := rfl
@[simp] theorem State.setPhase_archive (s : State) (x : Phase) : (s.setPhase x).archive = s.archive := rfl
@[simp] theorem State.setPhase_reports (s : State) (x : Phase) : (s.setPhase x).reports = s.reports := rfl
@[simp] theorem State.setPhase_link (s : State) (x : Phase) : (s.setPhase x).link = s.link := rfl
@[simp] theorem State.setPhase_owed (s : State) (x : Phase) : (s.setPhase x).owed = s.owed := rfl
@[simp] theorem State.setPhase_pending (s : State) (x : Phase) : (s.setPhase x).pending = s.pending := rfl

/-! ### setStore -/

@[simp] theorem State.setStore_phase (s : State) (x : PageStore) : (s.setStore x).phase = s.phase := rfl
@[simp] theorem State.setStore_store (s : State) (x : PageStore) : (s.setStore x).store = x := rfl
@[simp] theorem State.setStore_cells (s : State) (x : PageStore) : (s.setStore x).cells = s.cells := rfl
@[simp] theorem State.setStore_frame (s : State) (x : PageStore) : (s.setStore x).frame = s.frame := rfl
@[simp] theorem State.setStore_rotation (s : State) (x : PageStore) : (s.setStore x).rotation = s.rotation := rfl
@[simp] theorem State.setStore_stack (s : State) (x : PageStore) : (s.setStore x).stack = s.stack := rfl
@[simp] theorem State.setStore_calendar (s : State) (x : PageStore) : (s.setStore x).calendar = s.calendar := rfl
@[simp] theorem State.setStore_schedule (s : State) (x : PageStore) : (s.setStore x).schedule = s.schedule := rfl
@[simp] theorem State.setStore_archive (s : State) (x : PageStore) : (s.setStore x).archive = s.archive := rfl
@[simp] theorem State.setStore_reports (s : State) (x : PageStore) : (s.setStore x).reports = s.reports := rfl
@[simp] theorem State.setStore_link (s : State) (x : PageStore) : (s.setStore x).link = s.link := rfl
@[simp] theorem State.setStore_owed (s : State) (x : PageStore) : (s.setStore x).owed = s.owed := rfl
@[simp] theorem State.setStore_pending (s : State) (x : PageStore) : (s.setStore x).pending = s.pending := rfl

/-! ### setCells -/

@[simp] theorem State.setCells_phase (s : State) (x : CellUnit) : (s.setCells x).phase = s.phase := rfl
@[simp] theorem State.setCells_store (s : State) (x : CellUnit) : (s.setCells x).store = s.store := rfl
@[simp] theorem State.setCells_cells (s : State) (x : CellUnit) : (s.setCells x).cells = x := rfl
@[simp] theorem State.setCells_frame (s : State) (x : CellUnit) : (s.setCells x).frame = s.frame := rfl
@[simp] theorem State.setCells_rotation (s : State) (x : CellUnit) : (s.setCells x).rotation = s.rotation := rfl
@[simp] theorem State.setCells_stack (s : State) (x : CellUnit) : (s.setCells x).stack = s.stack := rfl
@[simp] theorem State.setCells_calendar (s : State) (x : CellUnit) : (s.setCells x).calendar = s.calendar := rfl
@[simp] theorem State.setCells_schedule (s : State) (x : CellUnit) : (s.setCells x).schedule = s.schedule := rfl
@[simp] theorem State.setCells_archive (s : State) (x : CellUnit) : (s.setCells x).archive = s.archive := rfl
@[simp] theorem State.setCells_reports (s : State) (x : CellUnit) : (s.setCells x).reports = s.reports := rfl
@[simp] theorem State.setCells_link (s : State) (x : CellUnit) : (s.setCells x).link = s.link := rfl
@[simp] theorem State.setCells_owed (s : State) (x : CellUnit) : (s.setCells x).owed = s.owed := rfl
@[simp] theorem State.setCells_pending (s : State) (x : CellUnit) : (s.setCells x).pending = s.pending := rfl

/-! ### setFrame -/

@[simp] theorem State.setFrame_phase (s : State) (x : FrameEngine) : (s.setFrame x).phase = s.phase := rfl
@[simp] theorem State.setFrame_store (s : State) (x : FrameEngine) : (s.setFrame x).store = s.store := rfl
@[simp] theorem State.setFrame_cells (s : State) (x : FrameEngine) : (s.setFrame x).cells = s.cells := rfl
@[simp] theorem State.setFrame_frame (s : State) (x : FrameEngine) : (s.setFrame x).frame = x := rfl
@[simp] theorem State.setFrame_rotation (s : State) (x : FrameEngine) : (s.setFrame x).rotation = s.rotation := rfl
@[simp] theorem State.setFrame_stack (s : State) (x : FrameEngine) : (s.setFrame x).stack = s.stack := rfl
@[simp] theorem State.setFrame_calendar (s : State) (x : FrameEngine) : (s.setFrame x).calendar = s.calendar := rfl
@[simp] theorem State.setFrame_schedule (s : State) (x : FrameEngine) : (s.setFrame x).schedule = s.schedule := rfl
@[simp] theorem State.setFrame_archive (s : State) (x : FrameEngine) : (s.setFrame x).archive = s.archive := rfl
@[simp] theorem State.setFrame_reports (s : State) (x : FrameEngine) : (s.setFrame x).reports = s.reports := rfl
@[simp] theorem State.setFrame_link (s : State) (x : FrameEngine) : (s.setFrame x).link = s.link := rfl
@[simp] theorem State.setFrame_owed (s : State) (x : FrameEngine) : (s.setFrame x).owed = s.owed := rfl
@[simp] theorem State.setFrame_pending (s : State) (x : FrameEngine) : (s.setFrame x).pending = s.pending := rfl

/-! ### setRotation -/

@[simp] theorem State.setRotation_phase (s : State) (x : Rotation) : (s.setRotation x).phase = s.phase := rfl
@[simp] theorem State.setRotation_store (s : State) (x : Rotation) : (s.setRotation x).store = s.store := rfl
@[simp] theorem State.setRotation_cells (s : State) (x : Rotation) : (s.setRotation x).cells = s.cells := rfl
@[simp] theorem State.setRotation_frame (s : State) (x : Rotation) : (s.setRotation x).frame = s.frame := rfl
@[simp] theorem State.setRotation_rotation (s : State) (x : Rotation) : (s.setRotation x).rotation = x := rfl
@[simp] theorem State.setRotation_stack (s : State) (x : Rotation) : (s.setRotation x).stack = s.stack := rfl
@[simp] theorem State.setRotation_calendar (s : State) (x : Rotation) : (s.setRotation x).calendar = s.calendar := rfl
@[simp] theorem State.setRotation_schedule (s : State) (x : Rotation) : (s.setRotation x).schedule = s.schedule := rfl
@[simp] theorem State.setRotation_archive (s : State) (x : Rotation) : (s.setRotation x).archive = s.archive := rfl
@[simp] theorem State.setRotation_reports (s : State) (x : Rotation) : (s.setRotation x).reports = s.reports := rfl
@[simp] theorem State.setRotation_link (s : State) (x : Rotation) : (s.setRotation x).link = s.link := rfl
@[simp] theorem State.setRotation_owed (s : State) (x : Rotation) : (s.setRotation x).owed = s.owed := rfl
@[simp] theorem State.setRotation_pending (s : State) (x : Rotation) : (s.setRotation x).pending = s.pending := rfl

/-! ### setStack -/

@[simp] theorem State.setStack_phase (s : State) (x : OverrideStack) : (s.setStack x).phase = s.phase := rfl
@[simp] theorem State.setStack_store (s : State) (x : OverrideStack) : (s.setStack x).store = s.store := rfl
@[simp] theorem State.setStack_cells (s : State) (x : OverrideStack) : (s.setStack x).cells = s.cells := rfl
@[simp] theorem State.setStack_frame (s : State) (x : OverrideStack) : (s.setStack x).frame = s.frame := rfl
@[simp] theorem State.setStack_rotation (s : State) (x : OverrideStack) : (s.setStack x).rotation = s.rotation := rfl
@[simp] theorem State.setStack_stack (s : State) (x : OverrideStack) : (s.setStack x).stack = x := rfl
@[simp] theorem State.setStack_calendar (s : State) (x : OverrideStack) : (s.setStack x).calendar = s.calendar := rfl
@[simp] theorem State.setStack_schedule (s : State) (x : OverrideStack) : (s.setStack x).schedule = s.schedule := rfl
@[simp] theorem State.setStack_archive (s : State) (x : OverrideStack) : (s.setStack x).archive = s.archive := rfl
@[simp] theorem State.setStack_reports (s : State) (x : OverrideStack) : (s.setStack x).reports = s.reports := rfl
@[simp] theorem State.setStack_link (s : State) (x : OverrideStack) : (s.setStack x).link = s.link := rfl
@[simp] theorem State.setStack_owed (s : State) (x : OverrideStack) : (s.setStack x).owed = s.owed := rfl
@[simp] theorem State.setStack_pending (s : State) (x : OverrideStack) : (s.setStack x).pending = s.pending := rfl

/-! ### setCalendar -/

@[simp] theorem State.setCalendar_phase (s : State) (x : Calendar) : (s.setCalendar x).phase = s.phase := rfl
@[simp] theorem State.setCalendar_store (s : State) (x : Calendar) : (s.setCalendar x).store = s.store := rfl
@[simp] theorem State.setCalendar_cells (s : State) (x : Calendar) : (s.setCalendar x).cells = s.cells := rfl
@[simp] theorem State.setCalendar_frame (s : State) (x : Calendar) : (s.setCalendar x).frame = s.frame := rfl
@[simp] theorem State.setCalendar_rotation (s : State) (x : Calendar) : (s.setCalendar x).rotation = s.rotation := rfl
@[simp] theorem State.setCalendar_stack (s : State) (x : Calendar) : (s.setCalendar x).stack = s.stack := rfl
@[simp] theorem State.setCalendar_calendar (s : State) (x : Calendar) : (s.setCalendar x).calendar = x := rfl
@[simp] theorem State.setCalendar_schedule (s : State) (x : Calendar) : (s.setCalendar x).schedule = s.schedule := rfl
@[simp] theorem State.setCalendar_archive (s : State) (x : Calendar) : (s.setCalendar x).archive = s.archive := rfl
@[simp] theorem State.setCalendar_reports (s : State) (x : Calendar) : (s.setCalendar x).reports = s.reports := rfl
@[simp] theorem State.setCalendar_link (s : State) (x : Calendar) : (s.setCalendar x).link = s.link := rfl
@[simp] theorem State.setCalendar_owed (s : State) (x : Calendar) : (s.setCalendar x).owed = s.owed := rfl
@[simp] theorem State.setCalendar_pending (s : State) (x : Calendar) : (s.setCalendar x).pending = s.pending := rfl

/-! ### setSchedule -/

@[simp] theorem State.setSchedule_phase (s : State) (x : Schedule) : (s.setSchedule x).phase = s.phase := rfl
@[simp] theorem State.setSchedule_store (s : State) (x : Schedule) : (s.setSchedule x).store = s.store := rfl
@[simp] theorem State.setSchedule_cells (s : State) (x : Schedule) : (s.setSchedule x).cells = s.cells := rfl
@[simp] theorem State.setSchedule_frame (s : State) (x : Schedule) : (s.setSchedule x).frame = s.frame := rfl
@[simp] theorem State.setSchedule_rotation (s : State) (x : Schedule) : (s.setSchedule x).rotation = s.rotation := rfl
@[simp] theorem State.setSchedule_stack (s : State) (x : Schedule) : (s.setSchedule x).stack = s.stack := rfl
@[simp] theorem State.setSchedule_calendar (s : State) (x : Schedule) : (s.setSchedule x).calendar = s.calendar := rfl
@[simp] theorem State.setSchedule_schedule (s : State) (x : Schedule) : (s.setSchedule x).schedule = x := rfl
@[simp] theorem State.setSchedule_archive (s : State) (x : Schedule) : (s.setSchedule x).archive = s.archive := rfl
@[simp] theorem State.setSchedule_reports (s : State) (x : Schedule) : (s.setSchedule x).reports = s.reports := rfl
@[simp] theorem State.setSchedule_link (s : State) (x : Schedule) : (s.setSchedule x).link = s.link := rfl
@[simp] theorem State.setSchedule_owed (s : State) (x : Schedule) : (s.setSchedule x).owed = s.owed := rfl
@[simp] theorem State.setSchedule_pending (s : State) (x : Schedule) : (s.setSchedule x).pending = s.pending := rfl

/-! ### setArchive -/

@[simp] theorem State.setArchive_phase (s : State) (x : Archive) : (s.setArchive x).phase = s.phase := rfl
@[simp] theorem State.setArchive_store (s : State) (x : Archive) : (s.setArchive x).store = s.store := rfl
@[simp] theorem State.setArchive_cells (s : State) (x : Archive) : (s.setArchive x).cells = s.cells := rfl
@[simp] theorem State.setArchive_frame (s : State) (x : Archive) : (s.setArchive x).frame = s.frame := rfl
@[simp] theorem State.setArchive_rotation (s : State) (x : Archive) : (s.setArchive x).rotation = s.rotation := rfl
@[simp] theorem State.setArchive_stack (s : State) (x : Archive) : (s.setArchive x).stack = s.stack := rfl
@[simp] theorem State.setArchive_calendar (s : State) (x : Archive) : (s.setArchive x).calendar = s.calendar := rfl
@[simp] theorem State.setArchive_schedule (s : State) (x : Archive) : (s.setArchive x).schedule = s.schedule := rfl
@[simp] theorem State.setArchive_archive (s : State) (x : Archive) : (s.setArchive x).archive = x := rfl
@[simp] theorem State.setArchive_reports (s : State) (x : Archive) : (s.setArchive x).reports = s.reports := rfl
@[simp] theorem State.setArchive_link (s : State) (x : Archive) : (s.setArchive x).link = s.link := rfl
@[simp] theorem State.setArchive_owed (s : State) (x : Archive) : (s.setArchive x).owed = s.owed := rfl
@[simp] theorem State.setArchive_pending (s : State) (x : Archive) : (s.setArchive x).pending = s.pending := rfl

/-! ### setReports -/

@[simp] theorem State.setReports_phase (s : State) (x : ReportQueue) : (s.setReports x).phase = s.phase := rfl
@[simp] theorem State.setReports_store (s : State) (x : ReportQueue) : (s.setReports x).store = s.store := rfl
@[simp] theorem State.setReports_cells (s : State) (x : ReportQueue) : (s.setReports x).cells = s.cells := rfl
@[simp] theorem State.setReports_frame (s : State) (x : ReportQueue) : (s.setReports x).frame = s.frame := rfl
@[simp] theorem State.setReports_rotation (s : State) (x : ReportQueue) : (s.setReports x).rotation = s.rotation := rfl
@[simp] theorem State.setReports_stack (s : State) (x : ReportQueue) : (s.setReports x).stack = s.stack := rfl
@[simp] theorem State.setReports_calendar (s : State) (x : ReportQueue) : (s.setReports x).calendar = s.calendar := rfl
@[simp] theorem State.setReports_schedule (s : State) (x : ReportQueue) : (s.setReports x).schedule = s.schedule := rfl
@[simp] theorem State.setReports_archive (s : State) (x : ReportQueue) : (s.setReports x).archive = s.archive := rfl
@[simp] theorem State.setReports_reports (s : State) (x : ReportQueue) : (s.setReports x).reports = x := rfl
@[simp] theorem State.setReports_link (s : State) (x : ReportQueue) : (s.setReports x).link = s.link := rfl
@[simp] theorem State.setReports_owed (s : State) (x : ReportQueue) : (s.setReports x).owed = s.owed := rfl
@[simp] theorem State.setReports_pending (s : State) (x : ReportQueue) : (s.setReports x).pending = s.pending := rfl

/-! ### setLink -/

@[simp] theorem State.setLink_phase (s : State) (x : Link) : (s.setLink x).phase = s.phase := rfl
@[simp] theorem State.setLink_store (s : State) (x : Link) : (s.setLink x).store = s.store := rfl
@[simp] theorem State.setLink_cells (s : State) (x : Link) : (s.setLink x).cells = s.cells := rfl
@[simp] theorem State.setLink_frame (s : State) (x : Link) : (s.setLink x).frame = s.frame := rfl
@[simp] theorem State.setLink_rotation (s : State) (x : Link) : (s.setLink x).rotation = s.rotation := rfl
@[simp] theorem State.setLink_stack (s : State) (x : Link) : (s.setLink x).stack = s.stack := rfl
@[simp] theorem State.setLink_calendar (s : State) (x : Link) : (s.setLink x).calendar = s.calendar := rfl
@[simp] theorem State.setLink_schedule (s : State) (x : Link) : (s.setLink x).schedule = s.schedule := rfl
@[simp] theorem State.setLink_archive (s : State) (x : Link) : (s.setLink x).archive = s.archive := rfl
@[simp] theorem State.setLink_reports (s : State) (x : Link) : (s.setLink x).reports = s.reports := rfl
@[simp] theorem State.setLink_link (s : State) (x : Link) : (s.setLink x).link = x := rfl
@[simp] theorem State.setLink_owed (s : State) (x : Link) : (s.setLink x).owed = s.owed := rfl
@[simp] theorem State.setLink_pending (s : State) (x : Link) : (s.setLink x).pending = s.pending := rfl

/-! ### setOwed -/

@[simp] theorem State.setOwed_phase (s : State) (x : Owed) : (s.setOwed x).phase = s.phase := rfl
@[simp] theorem State.setOwed_store (s : State) (x : Owed) : (s.setOwed x).store = s.store := rfl
@[simp] theorem State.setOwed_cells (s : State) (x : Owed) : (s.setOwed x).cells = s.cells := rfl
@[simp] theorem State.setOwed_frame (s : State) (x : Owed) : (s.setOwed x).frame = s.frame := rfl
@[simp] theorem State.setOwed_rotation (s : State) (x : Owed) : (s.setOwed x).rotation = s.rotation := rfl
@[simp] theorem State.setOwed_stack (s : State) (x : Owed) : (s.setOwed x).stack = s.stack := rfl
@[simp] theorem State.setOwed_calendar (s : State) (x : Owed) : (s.setOwed x).calendar = s.calendar := rfl
@[simp] theorem State.setOwed_schedule (s : State) (x : Owed) : (s.setOwed x).schedule = s.schedule := rfl
@[simp] theorem State.setOwed_archive (s : State) (x : Owed) : (s.setOwed x).archive = s.archive := rfl
@[simp] theorem State.setOwed_reports (s : State) (x : Owed) : (s.setOwed x).reports = s.reports := rfl
@[simp] theorem State.setOwed_link (s : State) (x : Owed) : (s.setOwed x).link = s.link := rfl
@[simp] theorem State.setOwed_owed (s : State) (x : Owed) : (s.setOwed x).owed = x := rfl
@[simp] theorem State.setOwed_pending (s : State) (x : Owed) : (s.setOwed x).pending = s.pending := rfl

/-! ### setPending -/

@[simp] theorem State.setPending_phase (s : State) (x : List Instr) : (s.setPending x).phase = s.phase := rfl
@[simp] theorem State.setPending_store (s : State) (x : List Instr) : (s.setPending x).store = s.store := rfl
@[simp] theorem State.setPending_cells (s : State) (x : List Instr) : (s.setPending x).cells = s.cells := rfl
@[simp] theorem State.setPending_frame (s : State) (x : List Instr) : (s.setPending x).frame = s.frame := rfl
@[simp] theorem State.setPending_rotation (s : State) (x : List Instr) : (s.setPending x).rotation = s.rotation := rfl
@[simp] theorem State.setPending_stack (s : State) (x : List Instr) : (s.setPending x).stack = s.stack := rfl
@[simp] theorem State.setPending_calendar (s : State) (x : List Instr) : (s.setPending x).calendar = s.calendar := rfl
@[simp] theorem State.setPending_schedule (s : State) (x : List Instr) : (s.setPending x).schedule = s.schedule := rfl
@[simp] theorem State.setPending_archive (s : State) (x : List Instr) : (s.setPending x).archive = s.archive := rfl
@[simp] theorem State.setPending_reports (s : State) (x : List Instr) : (s.setPending x).reports = s.reports := rfl
@[simp] theorem State.setPending_link (s : State) (x : List Instr) : (s.setPending x).link = s.link := rfl
@[simp] theorem State.setPending_owed (s : State) (x : List Instr) : (s.setPending x).owed = s.owed := rfl
@[simp] theorem State.setPending_pending (s : State) (x : List Instr) : (s.setPending x).pending = x := rfl

end Sys2Proof.Machine
end

