-- ==== Sys2Proof/Laws/Reports.lean ====
section
/-! SUPPORT. What the shared operations over the report queue change, and what they leave: for each operation the
blocks it touches, once, and from it the fields it leaves unchanged. -/

namespace Sys2Proof.Machine

open Sys2Proof

/-- An offered report changes the report queue alone (R147, R155). -/
theorem State.offerStamped_leaves (s : State) (stamp : Option Stamp) (k : Kind) (subject detail : Nat) :
    (s.offerStamped stamp k subject detail).phase = s.phase ∧
    (s.offerStamped stamp k subject detail).store = s.store ∧
    (s.offerStamped stamp k subject detail).cells = s.cells ∧
    (s.offerStamped stamp k subject detail).frame = s.frame ∧
    (s.offerStamped stamp k subject detail).rotation = s.rotation ∧
    (s.offerStamped stamp k subject detail).stack = s.stack ∧
    (s.offerStamped stamp k subject detail).calendar = s.calendar ∧
    (s.offerStamped stamp k subject detail).schedule = s.schedule ∧
    (s.offerStamped stamp k subject detail).archive = s.archive ∧
    (s.offerStamped stamp k subject detail).link = s.link ∧ (s.offerStamped stamp k subject detail).owed = s.owed ∧
    (s.offerStamped stamp k subject detail).pending = s.pending := by
  simp [State.offerStamped]

@[simp] theorem State.offerStamped_phase (s : State) (stamp : Option Stamp) (k : Kind) (subject detail : Nat) : (s.offerStamped stamp k subject detail).phase = s.phase :=
  (State.offerStamped_leaves s stamp k subject detail).1
@[simp] theorem State.offerStamped_store (s : State) (stamp : Option Stamp) (k : Kind) (subject detail : Nat) : (s.offerStamped stamp k subject detail).store = s.store :=
  (State.offerStamped_leaves s stamp k subject detail).2.1
@[simp] theorem State.offerStamped_cells (s : State) (stamp : Option Stamp) (k : Kind) (subject detail : Nat) : (s.offerStamped stamp k subject detail).cells = s.cells :=
  (State.offerStamped_leaves s stamp k subject detail).2.2.1
@[simp] theorem State.offerStamped_frame (s : State) (stamp : Option Stamp) (k : Kind) (subject detail : Nat) : (s.offerStamped stamp k subject detail).frame = s.frame :=
  (State.offerStamped_leaves s stamp k subject detail).2.2.2.1
@[simp] theorem State.offerStamped_rotation (s : State) (stamp : Option Stamp) (k : Kind) (subject detail : Nat) : (s.offerStamped stamp k subject detail).rotation = s.rotation :=
  (State.offerStamped_leaves s stamp k subject detail).2.2.2.2.1
@[simp] theorem State.offerStamped_stack (s : State) (stamp : Option Stamp) (k : Kind) (subject detail : Nat) : (s.offerStamped stamp k subject detail).stack = s.stack :=
  (State.offerStamped_leaves s stamp k subject detail).2.2.2.2.2.1
@[simp] theorem State.offerStamped_calendar (s : State) (stamp : Option Stamp) (k : Kind) (subject detail : Nat) : (s.offerStamped stamp k subject detail).calendar = s.calendar :=
  (State.offerStamped_leaves s stamp k subject detail).2.2.2.2.2.2.1
@[simp] theorem State.offerStamped_schedule (s : State) (stamp : Option Stamp) (k : Kind) (subject detail : Nat) : (s.offerStamped stamp k subject detail).schedule = s.schedule :=
  (State.offerStamped_leaves s stamp k subject detail).2.2.2.2.2.2.2.1
@[simp] theorem State.offerStamped_archive (s : State) (stamp : Option Stamp) (k : Kind) (subject detail : Nat) : (s.offerStamped stamp k subject detail).archive = s.archive :=
  (State.offerStamped_leaves s stamp k subject detail).2.2.2.2.2.2.2.2.1
@[simp] theorem State.offerStamped_link (s : State) (stamp : Option Stamp) (k : Kind) (subject detail : Nat) : (s.offerStamped stamp k subject detail).link = s.link :=
  (State.offerStamped_leaves s stamp k subject detail).2.2.2.2.2.2.2.2.2.1
@[simp] theorem State.offerStamped_owed (s : State) (stamp : Option Stamp) (k : Kind) (subject detail : Nat) : (s.offerStamped stamp k subject detail).owed = s.owed :=
  (State.offerStamped_leaves s stamp k subject detail).2.2.2.2.2.2.2.2.2.2.1
@[simp] theorem State.offerStamped_pending (s : State) (stamp : Option Stamp) (k : Kind) (subject detail : Nat) : (s.offerStamped stamp k subject detail).pending = s.pending :=
  (State.offerStamped_leaves s stamp k subject detail).2.2.2.2.2.2.2.2.2.2.2

/-- An offered report changes the report queue alone (R147, R155). -/
theorem State.offer_leaves (s : State) (k : Kind) (subject detail : Nat) :
    (s.offer k subject detail).phase = s.phase ∧ (s.offer k subject detail).store = s.store ∧
    (s.offer k subject detail).cells = s.cells ∧ (s.offer k subject detail).frame = s.frame ∧
    (s.offer k subject detail).rotation = s.rotation ∧ (s.offer k subject detail).stack = s.stack ∧
    (s.offer k subject detail).calendar = s.calendar ∧ (s.offer k subject detail).schedule = s.schedule ∧
    (s.offer k subject detail).archive = s.archive ∧ (s.offer k subject detail).link = s.link ∧
    (s.offer k subject detail).owed = s.owed ∧ (s.offer k subject detail).pending = s.pending := by
  simp [State.offer]

@[simp] theorem State.offer_phase (s : State) (k : Kind) (subject detail : Nat) : (s.offer k subject detail).phase = s.phase :=
  (State.offer_leaves s k subject detail).1
@[simp] theorem State.offer_store (s : State) (k : Kind) (subject detail : Nat) : (s.offer k subject detail).store = s.store :=
  (State.offer_leaves s k subject detail).2.1
@[simp] theorem State.offer_cells (s : State) (k : Kind) (subject detail : Nat) : (s.offer k subject detail).cells = s.cells :=
  (State.offer_leaves s k subject detail).2.2.1
@[simp] theorem State.offer_frame (s : State) (k : Kind) (subject detail : Nat) : (s.offer k subject detail).frame = s.frame :=
  (State.offer_leaves s k subject detail).2.2.2.1
@[simp] theorem State.offer_rotation (s : State) (k : Kind) (subject detail : Nat) : (s.offer k subject detail).rotation = s.rotation :=
  (State.offer_leaves s k subject detail).2.2.2.2.1
@[simp] theorem State.offer_stack (s : State) (k : Kind) (subject detail : Nat) : (s.offer k subject detail).stack = s.stack :=
  (State.offer_leaves s k subject detail).2.2.2.2.2.1
@[simp] theorem State.offer_calendar (s : State) (k : Kind) (subject detail : Nat) : (s.offer k subject detail).calendar = s.calendar :=
  (State.offer_leaves s k subject detail).2.2.2.2.2.2.1
@[simp] theorem State.offer_schedule (s : State) (k : Kind) (subject detail : Nat) : (s.offer k subject detail).schedule = s.schedule :=
  (State.offer_leaves s k subject detail).2.2.2.2.2.2.2.1
@[simp] theorem State.offer_archive (s : State) (k : Kind) (subject detail : Nat) : (s.offer k subject detail).archive = s.archive :=
  (State.offer_leaves s k subject detail).2.2.2.2.2.2.2.2.1
@[simp] theorem State.offer_link (s : State) (k : Kind) (subject detail : Nat) : (s.offer k subject detail).link = s.link :=
  (State.offer_leaves s k subject detail).2.2.2.2.2.2.2.2.2.1
@[simp] theorem State.offer_owed (s : State) (k : Kind) (subject detail : Nat) : (s.offer k subject detail).owed = s.owed :=
  (State.offer_leaves s k subject detail).2.2.2.2.2.2.2.2.2.2.1
@[simp] theorem State.offer_pending (s : State) (k : Kind) (subject detail : Nat) : (s.offer k subject detail).pending = s.pending :=
  (State.offer_leaves s k subject detail).2.2.2.2.2.2.2.2.2.2.2

/-! ### What the queue does with a report -/

/-- The four rows of R147: disabled, coalesced, dropped with LOST, or a new record. -/
theorem ReportQueue.settle_cases (q : ReportQueue) (stamp : Option Stamp) (k : Kind) (subject detail n : Nat) :
    (kindEnabled q.mask k = false ∧ q.settle stamp k subject detail n = q) ∨
    (kindEnabled q.mask k = true ∧ q.records.any (·.about k subject) = true ∧
      q.settle stamp k subject detail n = { q with records := coalesce q.records k subject detail n }) ∨
    (kindEnabled q.mask k = true ∧ q.records.any (·.about k subject) = false ∧ Config.maxReports ≤ q.records.length ∧
      q.settle stamp k subject detail n = { q with lost := true }) ∨
    (kindEnabled q.mask k = true ∧ q.records.any (·.about k subject) = false ∧ q.records.length < Config.maxReports ∧
      q.settle stamp k subject detail n =
        ({ q with records := q.records ++ [⟨k, subject, detail, n, stamp⟩] } : ReportQueue).examineAttn) := by
  unfold ReportQueue.settle
  cases hm : kindEnabled q.mask k
  · simp
  · cases ha : q.records.any (·.about k subject)
    · rcases Nat.lt_or_ge q.records.length Config.maxReports with h | h
      · simp [h, Nat.not_le_of_lt h]
      · simp [h, Nat.not_lt_of_le h]
    · simp

@[simp] theorem ReportQueue.examineAttn_records (q : ReportQueue) : q.examineAttn.records = q.records := rfl
@[simp] theorem ReportQueue.examineAttn_lost (q : ReportQueue) : q.examineAttn.lost = q.lost := rfl
@[simp] theorem ReportQueue.examineAttn_mask (q : ReportQueue) : q.examineAttn.mask = q.mask := rfl
@[simp] theorem ReportQueue.examineAttn_attnEnable (q : ReportQueue) : q.examineAttn.attnEnable = q.attnEnable := rfl
@[simp] theorem ReportQueue.examineAttn_aside (q : ReportQueue) : q.examineAttn.aside = q.aside := rfl
@[simp] theorem ReportQueue.examineAttn_attnLow (q : ReportQueue) :
    q.examineAttn.attnLow = (q.attnEnable && !q.records.isEmpty) := rfl

/-- Settling leaves the mask, the enable and the reports held aside. -/
theorem ReportQueue.settle_leaves (q : ReportQueue) (stamp : Option Stamp) (k : Kind) (subject detail n : Nat) :
    (q.settle stamp k subject detail n).mask = q.mask ∧
      (q.settle stamp k subject detail n).attnEnable = q.attnEnable ∧
      (q.settle stamp k subject detail n).aside = q.aside := by
  rcases q.settle_cases stamp k subject detail n with ⟨-, h⟩ | ⟨-, -, h⟩ | ⟨-, -, -, h⟩ | ⟨-, -, -, h⟩ <;> simp [h]

@[simp] theorem ReportQueue.settle_mask (q : ReportQueue) (stamp : Option Stamp) (k : Kind) (subject detail n : Nat) :
    (q.settle stamp k subject detail n).mask = q.mask := (q.settle_leaves stamp k subject detail n).1
@[simp] theorem ReportQueue.settle_attnEnable (q : ReportQueue) (stamp : Option Stamp) (k : Kind)
    (subject detail n : Nat) : (q.settle stamp k subject detail n).attnEnable = q.attnEnable :=
  (q.settle_leaves stamp k subject detail n).2.1
@[simp] theorem ReportQueue.settle_aside (q : ReportQueue) (stamp : Option Stamp) (k : Kind) (subject detail n : Nat) :
    (q.settle stamp k subject detail n).aside = q.aside := (q.settle_leaves stamp k subject detail n).2.2

@[simp] theorem coalesce_length (records : List Report) (k : Kind) (subject detail n : Nat) :
    (coalesce records k subject detail n).length = records.length := by
  simp [coalesce]

/-- Coalescing keeps every record's kind and subject. -/
theorem coalesce_keys (records : List Report) (k : Kind) (subject detail n : Nat) :
    (coalesce records k subject detail n).map (fun r => (r.kind, r.subject)) =
      records.map fun r => (r.kind, r.subject) := by
  simp only [coalesce, List.map_map]
  apply List.map_congr_left
  intro r _
  simp only [Function.comp]
  split <;> rfl

/-- While the link listens, an offered report is settled at once (R147). -/
theorem State.offer_listening (s : State) (h : s.listening = true) (k : Kind) (subject detail : Nat) :
    (s.offer k subject detail).reports = s.reports.settle s.calendar.stamp k subject detail 1 := by
  simp [State.offer, State.offerStamped, h]

/-- During a start, an offered report is held aside (R155). -/
theorem State.offer_starting (s : State) (h : s.listening = false) (k : Kind) (subject detail : Nat) :
    (s.offer k subject detail).reports = s.reports.holdAside k subject detail := by
  simp [State.offer, State.offerStamped, h]

end Sys2Proof.Machine
end

