-- ==== Sys2Proof/Laws/Selection.lean ====
section
/-! SUPPORT. What the shared operations over the selection and the rotation change, and what they leave: for each operation the
blocks it touches, once, and from it the fields it leaves unchanged. -/

namespace Sys2Proof.Machine

open Sys2Proof

/-- A recomputation changes the override stack and the report queue (R89, R90). -/
theorem State.recompute_leaves (s : State) :
    s.recompute.phase = s.phase ∧ s.recompute.store = s.store ∧ s.recompute.cells = s.cells ∧
    s.recompute.frame = s.frame ∧ s.recompute.rotation = s.rotation ∧ s.recompute.calendar = s.calendar ∧
    s.recompute.schedule = s.schedule ∧ s.recompute.archive = s.archive ∧ s.recompute.link = s.link ∧
    s.recompute.owed = s.owed ∧ s.recompute.pending = s.pending := by
  unfold State.recompute
  simp only
  repeat' split
  all_goals simp

@[simp] theorem State.recompute_phase (s : State) : s.recompute.phase = s.phase := (State.recompute_leaves s).1
@[simp] theorem State.recompute_store (s : State) : s.recompute.store = s.store := (State.recompute_leaves s).2.1
@[simp] theorem State.recompute_cells (s : State) : s.recompute.cells = s.cells := (State.recompute_leaves s).2.2.1
@[simp] theorem State.recompute_frame (s : State) : s.recompute.frame = s.frame := (State.recompute_leaves s).2.2.2.1
@[simp] theorem State.recompute_rotation (s : State) : s.recompute.rotation = s.rotation :=
  (State.recompute_leaves s).2.2.2.2.1
@[simp] theorem State.recompute_calendar (s : State) : s.recompute.calendar = s.calendar :=
  (State.recompute_leaves s).2.2.2.2.2.1
@[simp] theorem State.recompute_schedule (s : State) : s.recompute.schedule = s.schedule :=
  (State.recompute_leaves s).2.2.2.2.2.2.1
@[simp] theorem State.recompute_archive (s : State) : s.recompute.archive = s.archive :=
  (State.recompute_leaves s).2.2.2.2.2.2.2.1
@[simp] theorem State.recompute_link (s : State) : s.recompute.link = s.link :=
  (State.recompute_leaves s).2.2.2.2.2.2.2.2.1
@[simp] theorem State.recompute_owed (s : State) : s.recompute.owed = s.owed :=
  (State.recompute_leaves s).2.2.2.2.2.2.2.2.2.1
@[simp] theorem State.recompute_pending (s : State) : s.recompute.pending = s.pending :=
  (State.recompute_leaves s).2.2.2.2.2.2.2.2.2.2

/-- A re-seat changes the rotation and the report queue (R62). -/
theorem State.reseat_leaves (s : State) (l : Fin 4) :
    (s.reseat l).phase = s.phase ∧ (s.reseat l).store = s.store ∧ (s.reseat l).cells = s.cells ∧
    (s.reseat l).frame = s.frame ∧ (s.reseat l).stack = s.stack ∧ (s.reseat l).calendar = s.calendar ∧
    (s.reseat l).schedule = s.schedule ∧ (s.reseat l).archive = s.archive ∧ (s.reseat l).link = s.link ∧
    (s.reseat l).owed = s.owed ∧ (s.reseat l).pending = s.pending := by
  unfold State.reseat
  simp only
  repeat' split
  all_goals simp

@[simp] theorem State.reseat_phase (s : State) (l : Fin 4) : (s.reseat l).phase = s.phase := (State.reseat_leaves s l).1
@[simp] theorem State.reseat_store (s : State) (l : Fin 4) : (s.reseat l).store = s.store :=
  (State.reseat_leaves s l).2.1
@[simp] theorem State.reseat_cells (s : State) (l : Fin 4) : (s.reseat l).cells = s.cells :=
  (State.reseat_leaves s l).2.2.1
@[simp] theorem State.reseat_frame (s : State) (l : Fin 4) : (s.reseat l).frame = s.frame :=
  (State.reseat_leaves s l).2.2.2.1
@[simp] theorem State.reseat_stack (s : State) (l : Fin 4) : (s.reseat l).stack = s.stack :=
  (State.reseat_leaves s l).2.2.2.2.1
@[simp] theorem State.reseat_calendar (s : State) (l : Fin 4) : (s.reseat l).calendar = s.calendar :=
  (State.reseat_leaves s l).2.2.2.2.2.1
@[simp] theorem State.reseat_schedule (s : State) (l : Fin 4) : (s.reseat l).schedule = s.schedule :=
  (State.reseat_leaves s l).2.2.2.2.2.2.1
@[simp] theorem State.reseat_archive (s : State) (l : Fin 4) : (s.reseat l).archive = s.archive :=
  (State.reseat_leaves s l).2.2.2.2.2.2.2.1
@[simp] theorem State.reseat_link (s : State) (l : Fin 4) : (s.reseat l).link = s.link :=
  (State.reseat_leaves s l).2.2.2.2.2.2.2.2.1
@[simp] theorem State.reseat_owed (s : State) (l : Fin 4) : (s.reseat l).owed = s.owed :=
  (State.reseat_leaves s l).2.2.2.2.2.2.2.2.2.1
@[simp] theorem State.reseat_pending (s : State) (l : Fin 4) : (s.reseat l).pending = s.pending :=
  (State.reseat_leaves s l).2.2.2.2.2.2.2.2.2.2

/-- A re-seat with its hand-off changes the rotation, the stack's selection and the report queue (R61, R62). -/
theorem State.reseatAndOffer_leaves (s : State) (l : Fin 4) :
    (s.reseatAndOffer l).phase = s.phase ∧ (s.reseatAndOffer l).store = s.store ∧
    (s.reseatAndOffer l).cells = s.cells ∧ (s.reseatAndOffer l).frame = s.frame ∧
    (s.reseatAndOffer l).calendar = s.calendar ∧ (s.reseatAndOffer l).schedule = s.schedule ∧
    (s.reseatAndOffer l).archive = s.archive ∧ (s.reseatAndOffer l).link = s.link ∧
    (s.reseatAndOffer l).owed = s.owed ∧ (s.reseatAndOffer l).pending = s.pending := by
  simp [State.reseatAndOffer]

@[simp] theorem State.reseatAndOffer_phase (s : State) (l : Fin 4) : (s.reseatAndOffer l).phase = s.phase :=
  (State.reseatAndOffer_leaves s l).1
@[simp] theorem State.reseatAndOffer_store (s : State) (l : Fin 4) : (s.reseatAndOffer l).store = s.store :=
  (State.reseatAndOffer_leaves s l).2.1
@[simp] theorem State.reseatAndOffer_cells (s : State) (l : Fin 4) : (s.reseatAndOffer l).cells = s.cells :=
  (State.reseatAndOffer_leaves s l).2.2.1
@[simp] theorem State.reseatAndOffer_frame (s : State) (l : Fin 4) : (s.reseatAndOffer l).frame = s.frame :=
  (State.reseatAndOffer_leaves s l).2.2.2.1
@[simp] theorem State.reseatAndOffer_calendar (s : State) (l : Fin 4) : (s.reseatAndOffer l).calendar = s.calendar :=
  (State.reseatAndOffer_leaves s l).2.2.2.2.1
@[simp] theorem State.reseatAndOffer_schedule (s : State) (l : Fin 4) : (s.reseatAndOffer l).schedule = s.schedule :=
  (State.reseatAndOffer_leaves s l).2.2.2.2.2.1
@[simp] theorem State.reseatAndOffer_archive (s : State) (l : Fin 4) : (s.reseatAndOffer l).archive = s.archive :=
  (State.reseatAndOffer_leaves s l).2.2.2.2.2.2.1
@[simp] theorem State.reseatAndOffer_link (s : State) (l : Fin 4) : (s.reseatAndOffer l).link = s.link :=
  (State.reseatAndOffer_leaves s l).2.2.2.2.2.2.2.1
@[simp] theorem State.reseatAndOffer_owed (s : State) (l : Fin 4) : (s.reseatAndOffer l).owed = s.owed :=
  (State.reseatAndOffer_leaves s l).2.2.2.2.2.2.2.2.1
@[simp] theorem State.reseatAndOffer_pending (s : State) (l : Fin 4) : (s.reseatAndOffer l).pending = s.pending :=
  (State.reseatAndOffer_leaves s l).2.2.2.2.2.2.2.2.2

/-- An advance changes the rotation, the stack's selection and the report queue (R67). -/
theorem State.advance_leaves (s : State) (k : Nat) :
    (s.advance k).phase = s.phase ∧ (s.advance k).store = s.store ∧ (s.advance k).cells = s.cells ∧
    (s.advance k).frame = s.frame ∧ (s.advance k).calendar = s.calendar ∧ (s.advance k).schedule = s.schedule ∧
    (s.advance k).archive = s.archive ∧ (s.advance k).link = s.link ∧ (s.advance k).owed = s.owed ∧
    (s.advance k).pending = s.pending := by
  unfold State.advance
  simp only
  repeat' split
  all_goals simp

@[simp] theorem State.advance_phase (s : State) (k : Nat) : (s.advance k).phase = s.phase :=
  (State.advance_leaves s k).1
@[simp] theorem State.advance_store (s : State) (k : Nat) : (s.advance k).store = s.store :=
  (State.advance_leaves s k).2.1
@[simp] theorem State.advance_cells (s : State) (k : Nat) : (s.advance k).cells = s.cells :=
  (State.advance_leaves s k).2.2.1
@[simp] theorem State.advance_frame (s : State) (k : Nat) : (s.advance k).frame = s.frame :=
  (State.advance_leaves s k).2.2.2.1
@[simp] theorem State.advance_calendar (s : State) (k : Nat) : (s.advance k).calendar = s.calendar :=
  (State.advance_leaves s k).2.2.2.2.1
@[simp] theorem State.advance_schedule (s : State) (k : Nat) : (s.advance k).schedule = s.schedule :=
  (State.advance_leaves s k).2.2.2.2.2.1
@[simp] theorem State.advance_archive (s : State) (k : Nat) : (s.advance k).archive = s.archive :=
  (State.advance_leaves s k).2.2.2.2.2.2.1
@[simp] theorem State.advance_link (s : State) (k : Nat) : (s.advance k).link = s.link :=
  (State.advance_leaves s k).2.2.2.2.2.2.2.1
@[simp] theorem State.advance_owed (s : State) (k : Nat) : (s.advance k).owed = s.owed :=
  (State.advance_leaves s k).2.2.2.2.2.2.2.2.1
@[simp] theorem State.advance_pending (s : State) (k : Nat) : (s.advance k).pending = s.pending :=
  (State.advance_leaves s k).2.2.2.2.2.2.2.2.2

/-- The rotation's second tick changes the rotation, the stack's selection and the report queue (R66). -/
theorem State.countDwell_leaves (s : State) :
    s.countDwell.phase = s.phase ∧ s.countDwell.store = s.store ∧ s.countDwell.cells = s.cells ∧
    s.countDwell.frame = s.frame ∧ s.countDwell.calendar = s.calendar ∧ s.countDwell.schedule = s.schedule ∧
    s.countDwell.archive = s.archive ∧ s.countDwell.link = s.link ∧ s.countDwell.owed = s.owed ∧
    s.countDwell.pending = s.pending := by
  unfold State.countDwell
  repeat' split
  all_goals simp

@[simp] theorem State.countDwell_phase (s : State) : s.countDwell.phase = s.phase := (State.countDwell_leaves s).1
@[simp] theorem State.countDwell_store (s : State) : s.countDwell.store = s.store := (State.countDwell_leaves s).2.1
@[simp] theorem State.countDwell_cells (s : State) : s.countDwell.cells = s.cells := (State.countDwell_leaves s).2.2.1
@[simp] theorem State.countDwell_frame (s : State) : s.countDwell.frame = s.frame := (State.countDwell_leaves s).2.2.2.1
@[simp] theorem State.countDwell_calendar (s : State) : s.countDwell.calendar = s.calendar :=
  (State.countDwell_leaves s).2.2.2.2.1
@[simp] theorem State.countDwell_schedule (s : State) : s.countDwell.schedule = s.schedule :=
  (State.countDwell_leaves s).2.2.2.2.2.1
@[simp] theorem State.countDwell_archive (s : State) : s.countDwell.archive = s.archive :=
  (State.countDwell_leaves s).2.2.2.2.2.2.1
@[simp] theorem State.countDwell_link (s : State) : s.countDwell.link = s.link :=
  (State.countDwell_leaves s).2.2.2.2.2.2.2.1
@[simp] theorem State.countDwell_owed (s : State) : s.countDwell.owed = s.owed :=
  (State.countDwell_leaves s).2.2.2.2.2.2.2.2.1
@[simp] theorem State.countDwell_pending (s : State) : s.countDwell.pending = s.pending :=
  (State.countDwell_leaves s).2.2.2.2.2.2.2.2.2

/-- The deletion notice changes the rotation and the report queue (R70). -/
theorem State.rotationPageGone_leaves (s : State) (page : Nat) :
    (s.rotationPageGone page).phase = s.phase ∧ (s.rotationPageGone page).store = s.store ∧
    (s.rotationPageGone page).cells = s.cells ∧ (s.rotationPageGone page).frame = s.frame ∧
    (s.rotationPageGone page).stack = s.stack ∧ (s.rotationPageGone page).calendar = s.calendar ∧
    (s.rotationPageGone page).schedule = s.schedule ∧ (s.rotationPageGone page).archive = s.archive ∧
    (s.rotationPageGone page).link = s.link ∧ (s.rotationPageGone page).owed = s.owed ∧
    (s.rotationPageGone page).pending = s.pending := by
  unfold State.rotationPageGone
  simp only
  repeat' split
  all_goals simp

@[simp] theorem State.rotationPageGone_phase (s : State) (page : Nat) : (s.rotationPageGone page).phase = s.phase :=
  (State.rotationPageGone_leaves s page).1
@[simp] theorem State.rotationPageGone_store (s : State) (page : Nat) : (s.rotationPageGone page).store = s.store :=
  (State.rotationPageGone_leaves s page).2.1
@[simp] theorem State.rotationPageGone_cells (s : State) (page : Nat) : (s.rotationPageGone page).cells = s.cells :=
  (State.rotationPageGone_leaves s page).2.2.1
@[simp] theorem State.rotationPageGone_frame (s : State) (page : Nat) : (s.rotationPageGone page).frame = s.frame :=
  (State.rotationPageGone_leaves s page).2.2.2.1
@[simp] theorem State.rotationPageGone_stack (s : State) (page : Nat) : (s.rotationPageGone page).stack = s.stack :=
  (State.rotationPageGone_leaves s page).2.2.2.2.1
@[simp] theorem State.rotationPageGone_calendar (s : State) (page : Nat) : (s.rotationPageGone page).calendar = s.calendar :=
  (State.rotationPageGone_leaves s page).2.2.2.2.2.1
@[simp] theorem State.rotationPageGone_schedule (s : State) (page : Nat) : (s.rotationPageGone page).schedule = s.schedule :=
  (State.rotationPageGone_leaves s page).2.2.2.2.2.2.1
@[simp] theorem State.rotationPageGone_archive (s : State) (page : Nat) : (s.rotationPageGone page).archive = s.archive :=
  (State.rotationPageGone_leaves s page).2.2.2.2.2.2.2.1
@[simp] theorem State.rotationPageGone_link (s : State) (page : Nat) : (s.rotationPageGone page).link = s.link :=
  (State.rotationPageGone_leaves s page).2.2.2.2.2.2.2.2.1
@[simp] theorem State.rotationPageGone_owed (s : State) (page : Nat) : (s.rotationPageGone page).owed = s.owed :=
  (State.rotationPageGone_leaves s page).2.2.2.2.2.2.2.2.2.1
@[simp] theorem State.rotationPageGone_pending (s : State) (page : Nat) : (s.rotationPageGone page).pending = s.pending :=
  (State.rotationPageGone_leaves s page).2.2.2.2.2.2.2.2.2.2

/-- The creation notice changes the rotation, the stack's selection and the report queue (R71). -/
theorem State.rotationPageCreated_leaves (s : State) (page : Nat) :
    (s.rotationPageCreated page).phase = s.phase ∧ (s.rotationPageCreated page).store = s.store ∧
    (s.rotationPageCreated page).cells = s.cells ∧ (s.rotationPageCreated page).frame = s.frame ∧
    (s.rotationPageCreated page).calendar = s.calendar ∧ (s.rotationPageCreated page).schedule = s.schedule ∧
    (s.rotationPageCreated page).archive = s.archive ∧ (s.rotationPageCreated page).link = s.link ∧
    (s.rotationPageCreated page).owed = s.owed ∧ (s.rotationPageCreated page).pending = s.pending := by
  unfold State.rotationPageCreated
  repeat' split
  all_goals simp

@[simp] theorem State.rotationPageCreated_phase (s : State) (page : Nat) : (s.rotationPageCreated page).phase = s.phase :=
  (State.rotationPageCreated_leaves s page).1
@[simp] theorem State.rotationPageCreated_store (s : State) (page : Nat) : (s.rotationPageCreated page).store = s.store :=
  (State.rotationPageCreated_leaves s page).2.1
@[simp] theorem State.rotationPageCreated_cells (s : State) (page : Nat) : (s.rotationPageCreated page).cells = s.cells :=
  (State.rotationPageCreated_leaves s page).2.2.1
@[simp] theorem State.rotationPageCreated_frame (s : State) (page : Nat) : (s.rotationPageCreated page).frame = s.frame :=
  (State.rotationPageCreated_leaves s page).2.2.2.1
@[simp] theorem State.rotationPageCreated_calendar (s : State) (page : Nat) : (s.rotationPageCreated page).calendar = s.calendar :=
  (State.rotationPageCreated_leaves s page).2.2.2.2.1
@[simp] theorem State.rotationPageCreated_schedule (s : State) (page : Nat) : (s.rotationPageCreated page).schedule = s.schedule :=
  (State.rotationPageCreated_leaves s page).2.2.2.2.2.1
@[simp] theorem State.rotationPageCreated_archive (s : State) (page : Nat) : (s.rotationPageCreated page).archive = s.archive :=
  (State.rotationPageCreated_leaves s page).2.2.2.2.2.2.1
@[simp] theorem State.rotationPageCreated_link (s : State) (page : Nat) : (s.rotationPageCreated page).link = s.link :=
  (State.rotationPageCreated_leaves s page).2.2.2.2.2.2.2.1
@[simp] theorem State.rotationPageCreated_owed (s : State) (page : Nat) : (s.rotationPageCreated page).owed = s.owed :=
  (State.rotationPageCreated_leaves s page).2.2.2.2.2.2.2.2.1
@[simp] theorem State.rotationPageCreated_pending (s : State) (page : Nat) : (s.rotationPageCreated page).pending = s.pending :=
  (State.rotationPageCreated_leaves s page).2.2.2.2.2.2.2.2.2

/-! ### What the selection and the rotation become -/

@[simp] theorem State.recompute_records (s : State) : s.recompute.stack.records = s.stack.records := by
  unfold State.recompute
  simp only
  split <;> simp

/-- After a recomputation the selection is the one the stack and the rotation give (R88, R89). -/
@[simp] theorem State.recompute_selection (s : State) :
    s.recompute.stack.selection = selectionOf s.stack.records s.rotation.currentPage := by
  unfold State.recompute
  simp only
  split <;> simp

/-- SELECTION is queued exactly when the page or the source changes (R90). -/
theorem State.recompute_cases (s : State) :
    (((selectionOf s.stack.records s.rotation.currentPage).page = s.stack.selection.page ∧
        (selectionOf s.stack.records s.rotation.currentPage).source = s.stack.selection.source) ∧
      s.recompute =
        s.setStack { s.stack with selection := selectionOf s.stack.records s.rotation.currentPage }) ∨
    (¬((selectionOf s.stack.records s.rotation.currentPage).page = s.stack.selection.page ∧
        (selectionOf s.stack.records s.rotation.currentPage).source = s.stack.selection.source) ∧
      s.recompute =
        (s.setStack { s.stack with selection := selectionOf s.stack.records s.rotation.currentPage }).offer .selection
          ((selectionOf s.stack.records s.rotation.currentPage).page.getD 0)
          (selectionOf s.stack.records s.rotation.currentPage).source.code) := by
  unfold State.recompute
  simp only
  split
  · exact .inl ⟨‹_›, rfl⟩
  · exact .inr ⟨‹_›, rfl⟩

@[simp] theorem State.reseat_active (s : State) (l : Fin 4) : (s.reseat l).rotation.active = l := by
  unfold State.reseat
  simp only
  split
  · simp
  · split <;> simp

@[simp] theorem State.reseat_lists (s : State) (l : Fin 4) : (s.reseat l).rotation.lists = s.rotation.lists := by
  unfold State.reseat
  simp only
  split
  · simp
  · split <;> simp

@[simp] theorem State.reseat_paused (s : State) (l : Fin 4) : (s.reseat l).rotation.paused = s.rotation.paused := by
  unfold State.reseat
  simp only
  split
  · simp
  · split <;> simp

/-- The seat after a re-seat: the first step naming a present page, with its full dwell, or none (R62). -/
theorem State.reseat_seat (s : State) (l : Fin 4) :
    (s.reseat l).rotation.seat =
      (s.firstStep s.rotation.lists[l].steps).bind (seatOn s.rotation.lists[l].steps) := by
  unfold State.reseat
  simp only
  split <;> rename_i heq
  · rw [heq]
    rfl
  · rw [heq]
    split <;> simp

/-- The step found by a search is a step of the list that names a present page (R62, R67). -/
theorem State.firstStep_spec {s : State} {steps : List Step} {j : Nat} (h : s.firstStep steps = some j) :
    ∃ step, steps[j]? = some step ∧ s.present step.page = true := by
  have h' := List.find?_some h
  split at h'
  · exact ⟨_, ‹_›, h'⟩
  · cases h'

/-- See `State.firstStep_spec`. -/
theorem State.nextStep_spec {s : State} {steps : List Step} {k j : Nat} (h : s.nextStep steps k = some j) :
    ∃ step, steps[j]? = some step ∧ s.present step.page = true := by
  have h' := List.find?_some h
  split at h'
  · exact ⟨_, ‹_›, h'⟩
  · cases h'

/-- The selected record is one of the stack's (R88). -/
theorem topOverride_mem {records : List Override} {o : Override} (h : topOverride records = some o) : o ∈ records := by
  induction records generalizing o with
  | nil => cases h
  | cons p rest ih =>
    unfold topOverride at h
    split at h
    · cases h
      exact List.mem_cons_self
    · rename_i best hb
      split at h
      · cases h
        exact List.mem_cons_self
      · cases h
        exact List.mem_cons_of_mem _ (ih hb)

/-- No record is selected exactly when the stack is empty (R88). -/
theorem topOverride_eq_none {records : List Override} : topOverride records = none ↔ records = [] := by
  cases records with
  | nil => simp [topOverride]
  | cons p rest =>
    unfold topOverride
    split
    · simp
    · split <;> simp

end Sys2Proof.Machine
end

