-- ==== Sys2Proof/Laws/Stack.lean ====
section
/-! SUPPORT. What the shared operations over the override stack change, and what they leave: for each operation the
blocks it touches, once, and from it the fields it leaves unchanged. -/

namespace Sys2Proof.Machine

open Sys2Proof

/-- The reports of ended records change the report queue alone (5.3). -/
theorem State.offerEnded_leaves (s : State) (detail : Nat) (gone : List Override) :
    (s.offerEnded detail gone).phase = s.phase ∧ (s.offerEnded detail gone).store = s.store ∧
    (s.offerEnded detail gone).cells = s.cells ∧ (s.offerEnded detail gone).frame = s.frame ∧
    (s.offerEnded detail gone).rotation = s.rotation ∧ (s.offerEnded detail gone).stack = s.stack ∧
    (s.offerEnded detail gone).calendar = s.calendar ∧ (s.offerEnded detail gone).schedule = s.schedule ∧
    (s.offerEnded detail gone).archive = s.archive ∧ (s.offerEnded detail gone).link = s.link ∧
    (s.offerEnded detail gone).owed = s.owed ∧ (s.offerEnded detail gone).pending = s.pending := by
  induction gone generalizing s with
  | nil => simp [State.offerEnded]
  | cons o rest ih => simpa [State.offerEnded] using ih (s.offer .overrideEnded o.page detail)

@[simp] theorem State.offerEnded_phase (s : State) (detail : Nat) (gone : List Override) : (s.offerEnded detail gone).phase = s.phase :=
  (State.offerEnded_leaves s detail gone).1
@[simp] theorem State.offerEnded_store (s : State) (detail : Nat) (gone : List Override) : (s.offerEnded detail gone).store = s.store :=
  (State.offerEnded_leaves s detail gone).2.1
@[simp] theorem State.offerEnded_cells (s : State) (detail : Nat) (gone : List Override) : (s.offerEnded detail gone).cells = s.cells :=
  (State.offerEnded_leaves s detail gone).2.2.1
@[simp] theorem State.offerEnded_frame (s : State) (detail : Nat) (gone : List Override) : (s.offerEnded detail gone).frame = s.frame :=
  (State.offerEnded_leaves s detail gone).2.2.2.1
@[simp] theorem State.offerEnded_rotation (s : State) (detail : Nat) (gone : List Override) : (s.offerEnded detail gone).rotation = s.rotation :=
  (State.offerEnded_leaves s detail gone).2.2.2.2.1
@[simp] theorem State.offerEnded_stack (s : State) (detail : Nat) (gone : List Override) : (s.offerEnded detail gone).stack = s.stack :=
  (State.offerEnded_leaves s detail gone).2.2.2.2.2.1
@[simp] theorem State.offerEnded_calendar (s : State) (detail : Nat) (gone : List Override) : (s.offerEnded detail gone).calendar = s.calendar :=
  (State.offerEnded_leaves s detail gone).2.2.2.2.2.2.1
@[simp] theorem State.offerEnded_schedule (s : State) (detail : Nat) (gone : List Override) : (s.offerEnded detail gone).schedule = s.schedule :=
  (State.offerEnded_leaves s detail gone).2.2.2.2.2.2.2.1
@[simp] theorem State.offerEnded_archive (s : State) (detail : Nat) (gone : List Override) : (s.offerEnded detail gone).archive = s.archive :=
  (State.offerEnded_leaves s detail gone).2.2.2.2.2.2.2.2.1
@[simp] theorem State.offerEnded_link (s : State) (detail : Nat) (gone : List Override) : (s.offerEnded detail gone).link = s.link :=
  (State.offerEnded_leaves s detail gone).2.2.2.2.2.2.2.2.2.1
@[simp] theorem State.offerEnded_owed (s : State) (detail : Nat) (gone : List Override) : (s.offerEnded detail gone).owed = s.owed :=
  (State.offerEnded_leaves s detail gone).2.2.2.2.2.2.2.2.2.2.1
@[simp] theorem State.offerEnded_pending (s : State) (detail : Nat) (gone : List Override) : (s.offerEnded detail gone).pending = s.pending :=
  (State.offerEnded_leaves s detail gone).2.2.2.2.2.2.2.2.2.2.2

/-- Ended records change the override stack and the report queue (5.3). -/
theorem State.endOverrides_leaves (s : State) (gone : Override → Bool) (detail : Nat) :
    (s.endOverrides gone detail).phase = s.phase ∧ (s.endOverrides gone detail).store = s.store ∧
    (s.endOverrides gone detail).cells = s.cells ∧ (s.endOverrides gone detail).frame = s.frame ∧
    (s.endOverrides gone detail).rotation = s.rotation ∧ (s.endOverrides gone detail).calendar = s.calendar ∧
    (s.endOverrides gone detail).schedule = s.schedule ∧ (s.endOverrides gone detail).archive = s.archive ∧
    (s.endOverrides gone detail).link = s.link ∧ (s.endOverrides gone detail).owed = s.owed ∧
    (s.endOverrides gone detail).pending = s.pending := by
  simp [State.endOverrides]

@[simp] theorem State.endOverrides_phase (s : State) (gone : Override → Bool) (detail : Nat) : (s.endOverrides gone detail).phase = s.phase :=
  (State.endOverrides_leaves s gone detail).1
@[simp] theorem State.endOverrides_store (s : State) (gone : Override → Bool) (detail : Nat) : (s.endOverrides gone detail).store = s.store :=
  (State.endOverrides_leaves s gone detail).2.1
@[simp] theorem State.endOverrides_cells (s : State) (gone : Override → Bool) (detail : Nat) : (s.endOverrides gone detail).cells = s.cells :=
  (State.endOverrides_leaves s gone detail).2.2.1
@[simp] theorem State.endOverrides_frame (s : State) (gone : Override → Bool) (detail : Nat) : (s.endOverrides gone detail).frame = s.frame :=
  (State.endOverrides_leaves s gone detail).2.2.2.1
@[simp] theorem State.endOverrides_rotation (s : State) (gone : Override → Bool) (detail : Nat) : (s.endOverrides gone detail).rotation = s.rotation :=
  (State.endOverrides_leaves s gone detail).2.2.2.2.1
@[simp] theorem State.endOverrides_calendar (s : State) (gone : Override → Bool) (detail : Nat) : (s.endOverrides gone detail).calendar = s.calendar :=
  (State.endOverrides_leaves s gone detail).2.2.2.2.2.1
@[simp] theorem State.endOverrides_schedule (s : State) (gone : Override → Bool) (detail : Nat) : (s.endOverrides gone detail).schedule = s.schedule :=
  (State.endOverrides_leaves s gone detail).2.2.2.2.2.2.1
@[simp] theorem State.endOverrides_archive (s : State) (gone : Override → Bool) (detail : Nat) : (s.endOverrides gone detail).archive = s.archive :=
  (State.endOverrides_leaves s gone detail).2.2.2.2.2.2.2.1
@[simp] theorem State.endOverrides_link (s : State) (gone : Override → Bool) (detail : Nat) : (s.endOverrides gone detail).link = s.link :=
  (State.endOverrides_leaves s gone detail).2.2.2.2.2.2.2.2.1
@[simp] theorem State.endOverrides_owed (s : State) (gone : Override → Bool) (detail : Nat) : (s.endOverrides gone detail).owed = s.owed :=
  (State.endOverrides_leaves s gone detail).2.2.2.2.2.2.2.2.2.1
@[simp] theorem State.endOverrides_pending (s : State) (gone : Override → Bool) (detail : Nat) : (s.endOverrides gone detail).pending = s.pending :=
  (State.endOverrides_leaves s gone detail).2.2.2.2.2.2.2.2.2.2

/-- An admission changes the override stack and the report queue (R76 to R78). -/
theorem State.admit_leaves (s : State) (new : Override) :
    (s.admitRecord new).2.phase = s.phase ∧ (s.admitRecord new).2.store = s.store ∧ (s.admitRecord new).2.cells = s.cells ∧
    (s.admitRecord new).2.frame = s.frame ∧ (s.admitRecord new).2.rotation = s.rotation ∧ (s.admitRecord new).2.calendar = s.calendar ∧
    (s.admitRecord new).2.schedule = s.schedule ∧ (s.admitRecord new).2.archive = s.archive ∧ (s.admitRecord new).2.link = s.link ∧
    (s.admitRecord new).2.owed = s.owed ∧ (s.admitRecord new).2.pending = s.pending := by
  unfold State.admitRecord
  simp only
  repeat' split
  all_goals simp

@[simp] theorem State.admit_phase (s : State) (new : Override) : (s.admitRecord new).2.phase = s.phase :=
  (State.admit_leaves s new).1
@[simp] theorem State.admit_store (s : State) (new : Override) : (s.admitRecord new).2.store = s.store :=
  (State.admit_leaves s new).2.1
@[simp] theorem State.admit_cells (s : State) (new : Override) : (s.admitRecord new).2.cells = s.cells :=
  (State.admit_leaves s new).2.2.1
@[simp] theorem State.admit_frame (s : State) (new : Override) : (s.admitRecord new).2.frame = s.frame :=
  (State.admit_leaves s new).2.2.2.1
@[simp] theorem State.admit_rotation (s : State) (new : Override) : (s.admitRecord new).2.rotation = s.rotation :=
  (State.admit_leaves s new).2.2.2.2.1
@[simp] theorem State.admit_calendar (s : State) (new : Override) : (s.admitRecord new).2.calendar = s.calendar :=
  (State.admit_leaves s new).2.2.2.2.2.1
@[simp] theorem State.admit_schedule (s : State) (new : Override) : (s.admitRecord new).2.schedule = s.schedule :=
  (State.admit_leaves s new).2.2.2.2.2.2.1
@[simp] theorem State.admit_archive (s : State) (new : Override) : (s.admitRecord new).2.archive = s.archive :=
  (State.admit_leaves s new).2.2.2.2.2.2.2.1
@[simp] theorem State.admit_link (s : State) (new : Override) : (s.admitRecord new).2.link = s.link :=
  (State.admit_leaves s new).2.2.2.2.2.2.2.2.1
@[simp] theorem State.admit_owed (s : State) (new : Override) : (s.admitRecord new).2.owed = s.owed :=
  (State.admit_leaves s new).2.2.2.2.2.2.2.2.2.1
@[simp] theorem State.admit_pending (s : State) (new : Override) : (s.admitRecord new).2.pending = s.pending :=
  (State.admit_leaves s new).2.2.2.2.2.2.2.2.2.2

/-- A SHOW hand-off changes the override stack and the report queue (R79). -/
theorem State.takeShow_leaves (s : State) (slot page priority duration : Nat) :
    (s.takeShow slot page priority duration).phase = s.phase ∧
    (s.takeShow slot page priority duration).store = s.store ∧
    (s.takeShow slot page priority duration).cells = s.cells ∧
    (s.takeShow slot page priority duration).frame = s.frame ∧
    (s.takeShow slot page priority duration).rotation = s.rotation ∧
    (s.takeShow slot page priority duration).calendar = s.calendar ∧
    (s.takeShow slot page priority duration).schedule = s.schedule ∧
    (s.takeShow slot page priority duration).archive = s.archive ∧
    (s.takeShow slot page priority duration).link = s.link ∧ (s.takeShow slot page priority duration).owed = s.owed ∧
    (s.takeShow slot page priority duration).pending = s.pending := by
  have h := State.admit_leaves s ⟨.schedule slot, page, priority, readDuration duration⟩
  unfold State.takeShow
  split
  · split
    · simp
    · rename_i heq
      simpa [heq] using h
  · simp

@[simp] theorem State.takeShow_phase (s : State) (slot page priority duration : Nat) : (s.takeShow slot page priority duration).phase = s.phase :=
  (State.takeShow_leaves s slot page priority duration).1
@[simp] theorem State.takeShow_store (s : State) (slot page priority duration : Nat) : (s.takeShow slot page priority duration).store = s.store :=
  (State.takeShow_leaves s slot page priority duration).2.1
@[simp] theorem State.takeShow_cells (s : State) (slot page priority duration : Nat) : (s.takeShow slot page priority duration).cells = s.cells :=
  (State.takeShow_leaves s slot page priority duration).2.2.1
@[simp] theorem State.takeShow_frame (s : State) (slot page priority duration : Nat) : (s.takeShow slot page priority duration).frame = s.frame :=
  (State.takeShow_leaves s slot page priority duration).2.2.2.1
@[simp] theorem State.takeShow_rotation (s : State) (slot page priority duration : Nat) : (s.takeShow slot page priority duration).rotation = s.rotation :=
  (State.takeShow_leaves s slot page priority duration).2.2.2.2.1
@[simp] theorem State.takeShow_calendar (s : State) (slot page priority duration : Nat) : (s.takeShow slot page priority duration).calendar = s.calendar :=
  (State.takeShow_leaves s slot page priority duration).2.2.2.2.2.1
@[simp] theorem State.takeShow_schedule (s : State) (slot page priority duration : Nat) : (s.takeShow slot page priority duration).schedule = s.schedule :=
  (State.takeShow_leaves s slot page priority duration).2.2.2.2.2.2.1
@[simp] theorem State.takeShow_archive (s : State) (slot page priority duration : Nat) : (s.takeShow slot page priority duration).archive = s.archive :=
  (State.takeShow_leaves s slot page priority duration).2.2.2.2.2.2.2.1
@[simp] theorem State.takeShow_link (s : State) (slot page priority duration : Nat) : (s.takeShow slot page priority duration).link = s.link :=
  (State.takeShow_leaves s slot page priority duration).2.2.2.2.2.2.2.2.1
@[simp] theorem State.takeShow_owed (s : State) (slot page priority duration : Nat) : (s.takeShow slot page priority duration).owed = s.owed :=
  (State.takeShow_leaves s slot page priority duration).2.2.2.2.2.2.2.2.2.1
@[simp] theorem State.takeShow_pending (s : State) (slot page priority duration : Nat) : (s.takeShow slot page priority duration).pending = s.pending :=
  (State.takeShow_leaves s slot page priority duration).2.2.2.2.2.2.2.2.2.2

/-- A CLEAR_BELOW changes the override stack and the report queue (R83). -/
theorem State.takeClearBelow_leaves (s : State) (priority : Nat) :
    (s.takeClearBelow priority).phase = s.phase ∧ (s.takeClearBelow priority).store = s.store ∧
    (s.takeClearBelow priority).cells = s.cells ∧ (s.takeClearBelow priority).frame = s.frame ∧
    (s.takeClearBelow priority).rotation = s.rotation ∧ (s.takeClearBelow priority).calendar = s.calendar ∧
    (s.takeClearBelow priority).schedule = s.schedule ∧ (s.takeClearBelow priority).archive = s.archive ∧
    (s.takeClearBelow priority).link = s.link ∧ (s.takeClearBelow priority).owed = s.owed ∧
    (s.takeClearBelow priority).pending = s.pending := by
  simp [State.takeClearBelow]

@[simp] theorem State.takeClearBelow_phase (s : State) (priority : Nat) : (s.takeClearBelow priority).phase = s.phase :=
  (State.takeClearBelow_leaves s priority).1
@[simp] theorem State.takeClearBelow_store (s : State) (priority : Nat) : (s.takeClearBelow priority).store = s.store :=
  (State.takeClearBelow_leaves s priority).2.1
@[simp] theorem State.takeClearBelow_cells (s : State) (priority : Nat) : (s.takeClearBelow priority).cells = s.cells :=
  (State.takeClearBelow_leaves s priority).2.2.1
@[simp] theorem State.takeClearBelow_frame (s : State) (priority : Nat) : (s.takeClearBelow priority).frame = s.frame :=
  (State.takeClearBelow_leaves s priority).2.2.2.1
@[simp] theorem State.takeClearBelow_rotation (s : State) (priority : Nat) : (s.takeClearBelow priority).rotation = s.rotation :=
  (State.takeClearBelow_leaves s priority).2.2.2.2.1
@[simp] theorem State.takeClearBelow_calendar (s : State) (priority : Nat) : (s.takeClearBelow priority).calendar = s.calendar :=
  (State.takeClearBelow_leaves s priority).2.2.2.2.2.1
@[simp] theorem State.takeClearBelow_schedule (s : State) (priority : Nat) : (s.takeClearBelow priority).schedule = s.schedule :=
  (State.takeClearBelow_leaves s priority).2.2.2.2.2.2.1
@[simp] theorem State.takeClearBelow_archive (s : State) (priority : Nat) : (s.takeClearBelow priority).archive = s.archive :=
  (State.takeClearBelow_leaves s priority).2.2.2.2.2.2.2.1
@[simp] theorem State.takeClearBelow_link (s : State) (priority : Nat) : (s.takeClearBelow priority).link = s.link :=
  (State.takeClearBelow_leaves s priority).2.2.2.2.2.2.2.2.1
@[simp] theorem State.takeClearBelow_owed (s : State) (priority : Nat) : (s.takeClearBelow priority).owed = s.owed :=
  (State.takeClearBelow_leaves s priority).2.2.2.2.2.2.2.2.2.1
@[simp] theorem State.takeClearBelow_pending (s : State) (priority : Nat) : (s.takeClearBelow priority).pending = s.pending :=
  (State.takeClearBelow_leaves s priority).2.2.2.2.2.2.2.2.2.2

/-- The stack's second tick changes the override stack and the report queue (R80). -/
theorem State.countOverrides_leaves (s : State) :
    s.countOverrides.phase = s.phase ∧ s.countOverrides.store = s.store ∧ s.countOverrides.cells = s.cells ∧
    s.countOverrides.frame = s.frame ∧ s.countOverrides.rotation = s.rotation ∧
    s.countOverrides.calendar = s.calendar ∧ s.countOverrides.schedule = s.schedule ∧
    s.countOverrides.archive = s.archive ∧ s.countOverrides.link = s.link ∧ s.countOverrides.owed = s.owed ∧
    s.countOverrides.pending = s.pending := by
  unfold State.countOverrides
  simp only
  repeat' split
  all_goals simp

@[simp] theorem State.countOverrides_phase (s : State) : s.countOverrides.phase = s.phase :=
  (State.countOverrides_leaves s).1
@[simp] theorem State.countOverrides_store (s : State) : s.countOverrides.store = s.store :=
  (State.countOverrides_leaves s).2.1
@[simp] theorem State.countOverrides_cells (s : State) : s.countOverrides.cells = s.cells :=
  (State.countOverrides_leaves s).2.2.1
@[simp] theorem State.countOverrides_frame (s : State) : s.countOverrides.frame = s.frame :=
  (State.countOverrides_leaves s).2.2.2.1
@[simp] theorem State.countOverrides_rotation (s : State) : s.countOverrides.rotation = s.rotation :=
  (State.countOverrides_leaves s).2.2.2.2.1
@[simp] theorem State.countOverrides_calendar (s : State) : s.countOverrides.calendar = s.calendar :=
  (State.countOverrides_leaves s).2.2.2.2.2.1
@[simp] theorem State.countOverrides_schedule (s : State) : s.countOverrides.schedule = s.schedule :=
  (State.countOverrides_leaves s).2.2.2.2.2.2.1
@[simp] theorem State.countOverrides_archive (s : State) : s.countOverrides.archive = s.archive :=
  (State.countOverrides_leaves s).2.2.2.2.2.2.2.1
@[simp] theorem State.countOverrides_link (s : State) : s.countOverrides.link = s.link :=
  (State.countOverrides_leaves s).2.2.2.2.2.2.2.2.1
@[simp] theorem State.countOverrides_owed (s : State) : s.countOverrides.owed = s.owed :=
  (State.countOverrides_leaves s).2.2.2.2.2.2.2.2.2.1
@[simp] theorem State.countOverrides_pending (s : State) : s.countOverrides.pending = s.pending :=
  (State.countOverrides_leaves s).2.2.2.2.2.2.2.2.2.2

/-! ### What becomes of the stack's records -/

/-- The records that end leave the stack, and the others keep their order (5.3). -/
@[simp] theorem State.endOverrides_records (s : State) (gone : Override → Bool) (detail : Nat) :
    (s.endOverrides gone detail).stack.records = s.stack.records.filter fun o => !gone o := by
  simp [State.endOverrides]

@[simp] theorem State.endOverrides_selection (s : State) (gone : Override → Bool) (detail : Nat) :
    (s.endOverrides gone detail).stack.selection = s.stack.selection := by
  simp [State.endOverrides]

/-- The records after an admission (R76 to R78): replaced, appended, evicted and appended, or refused. -/
theorem State.admit_cases (s : State) (new : Override) :
    (s.stack.records.any (·.identity == new.identity) = true ∧ (s.admitRecord new).1 = .replaced ∧
      (s.admitRecord new).2.stack.records = s.stack.records.filter (·.identity != new.identity) ++ [new]) ∨
    (s.stack.records.any (·.identity == new.identity) = false ∧ s.stack.records.length < Config.maxOverrides ∧
      (s.admitRecord new).1 = .created ∧ (s.admitRecord new).2.stack.records = s.stack.records ++ [new]) ∨
    (s.stack.records.any (·.identity == new.identity) = false ∧ Config.maxOverrides ≤ s.stack.records.length ∧
      lowestPriority s.stack.records < new.priority ∧
      ∃ victim, s.stack.records.find? (·.priority == lowestPriority s.stack.records) = some victim ∧
        (s.admitRecord new).1 = .evicted victim.page ∧
        (s.admitRecord new).2.stack.records = s.stack.records.erase victim ++ [new]) ∨
    (s.stack.records.any (·.identity == new.identity) = false ∧ Config.maxOverrides ≤ s.stack.records.length ∧
      s.admitRecord new = (.refused, s)) := by
  unfold State.admitRecord
  simp only
  cases ha : s.stack.records.any (·.identity == new.identity)
  · rcases Nat.lt_or_ge s.stack.records.length Config.maxOverrides with hl | hl
    · simp [hl]
    · simp only [Nat.not_lt_of_le hl, if_false]
      by_cases hp : lowestPriority s.stack.records < new.priority
      · simp only [hp, if_true]
        cases hf : s.stack.records.find? (·.priority == lowestPriority s.stack.records)
        · simp [hl]
        · simp [hl]
      · simp [hl, hp]
  · simp

end Sys2Proof.Machine
end

