-- ==== Sys2Proof/Laws/Walk.lean ====
section
/-! SUPPORT. What the shared operations over the walk of a minute start change, and what they leave: for each operation the
blocks it touches, once, and from it the fields it leaves unchanged. -/

namespace Sys2Proof.Machine

open Sys2Proof

/-- The taking of a minute start changes the schedule alone (R119). -/
theorem State.beginWalk_leaves (s : State) :
    s.beginWalk.phase = s.phase ∧ s.beginWalk.store = s.store ∧ s.beginWalk.cells = s.cells ∧
    s.beginWalk.frame = s.frame ∧ s.beginWalk.rotation = s.rotation ∧ s.beginWalk.stack = s.stack ∧
    s.beginWalk.calendar = s.calendar ∧ s.beginWalk.archive = s.archive ∧ s.beginWalk.reports = s.reports ∧
    s.beginWalk.link = s.link ∧ s.beginWalk.owed = s.owed ∧ s.beginWalk.pending = s.pending := by
  unfold State.beginWalk
  repeat' split
  all_goals simp

@[simp] theorem State.beginWalk_phase (s : State) : s.beginWalk.phase = s.phase := (State.beginWalk_leaves s).1
@[simp] theorem State.beginWalk_store (s : State) : s.beginWalk.store = s.store := (State.beginWalk_leaves s).2.1
@[simp] theorem State.beginWalk_cells (s : State) : s.beginWalk.cells = s.cells := (State.beginWalk_leaves s).2.2.1
@[simp] theorem State.beginWalk_frame (s : State) : s.beginWalk.frame = s.frame := (State.beginWalk_leaves s).2.2.2.1
@[simp] theorem State.beginWalk_rotation (s : State) : s.beginWalk.rotation = s.rotation :=
  (State.beginWalk_leaves s).2.2.2.2.1
@[simp] theorem State.beginWalk_stack (s : State) : s.beginWalk.stack = s.stack :=
  (State.beginWalk_leaves s).2.2.2.2.2.1
@[simp] theorem State.beginWalk_calendar (s : State) : s.beginWalk.calendar = s.calendar :=
  (State.beginWalk_leaves s).2.2.2.2.2.2.1
@[simp] theorem State.beginWalk_archive (s : State) : s.beginWalk.archive = s.archive :=
  (State.beginWalk_leaves s).2.2.2.2.2.2.2.1
@[simp] theorem State.beginWalk_reports (s : State) : s.beginWalk.reports = s.reports :=
  (State.beginWalk_leaves s).2.2.2.2.2.2.2.2.1
@[simp] theorem State.beginWalk_link (s : State) : s.beginWalk.link = s.link :=
  (State.beginWalk_leaves s).2.2.2.2.2.2.2.2.2.1
@[simp] theorem State.beginWalk_owed (s : State) : s.beginWalk.owed = s.owed :=
  (State.beginWalk_leaves s).2.2.2.2.2.2.2.2.2.2.1
@[simp] theorem State.beginWalk_pending (s : State) : s.beginWalk.pending = s.pending :=
  (State.beginWalk_leaves s).2.2.2.2.2.2.2.2.2.2.2

/-- A hand-off changes its owner: frame engine, rotation or stack, with reports (R120). -/
theorem State.handAction_leaves (s : State) (slot : Nat) (a : Action) :
    (s.handAction slot a).phase = s.phase ∧ (s.handAction slot a).store = s.store ∧
    (s.handAction slot a).cells = s.cells ∧ (s.handAction slot a).calendar = s.calendar ∧
    (s.handAction slot a).schedule = s.schedule ∧ (s.handAction slot a).archive = s.archive ∧
    (s.handAction slot a).link = s.link ∧ (s.handAction slot a).owed = s.owed ∧
    (s.handAction slot a).pending = s.pending := by
  cases a <;> simp [State.handAction]

@[simp] theorem State.handAction_phase (s : State) (slot : Nat) (a : Action) : (s.handAction slot a).phase = s.phase :=
  (State.handAction_leaves s slot a).1
@[simp] theorem State.handAction_store (s : State) (slot : Nat) (a : Action) : (s.handAction slot a).store = s.store :=
  (State.handAction_leaves s slot a).2.1
@[simp] theorem State.handAction_cells (s : State) (slot : Nat) (a : Action) : (s.handAction slot a).cells = s.cells :=
  (State.handAction_leaves s slot a).2.2.1
@[simp] theorem State.handAction_calendar (s : State) (slot : Nat) (a : Action) : (s.handAction slot a).calendar = s.calendar :=
  (State.handAction_leaves s slot a).2.2.2.1
@[simp] theorem State.handAction_schedule (s : State) (slot : Nat) (a : Action) : (s.handAction slot a).schedule = s.schedule :=
  (State.handAction_leaves s slot a).2.2.2.2.1
@[simp] theorem State.handAction_archive (s : State) (slot : Nat) (a : Action) : (s.handAction slot a).archive = s.archive :=
  (State.handAction_leaves s slot a).2.2.2.2.2.1
@[simp] theorem State.handAction_link (s : State) (slot : Nat) (a : Action) : (s.handAction slot a).link = s.link :=
  (State.handAction_leaves s slot a).2.2.2.2.2.2.1
@[simp] theorem State.handAction_owed (s : State) (slot : Nat) (a : Action) : (s.handAction slot a).owed = s.owed :=
  (State.handAction_leaves s slot a).2.2.2.2.2.2.2.1
@[simp] theorem State.handAction_pending (s : State) (slot : Nat) (a : Action) : (s.handAction slot a).pending = s.pending :=
  (State.handAction_leaves s slot a).2.2.2.2.2.2.2.2

/-- Steps 2 and 3 of a firing change the slots, the dirty flag and the report queue (R121, R122). -/
theorem State.noteFiring_leaves (s : State) (f : Firing) :
    (s.noteFiring f).phase = s.phase ∧ (s.noteFiring f).store = s.store ∧ (s.noteFiring f).cells = s.cells ∧
    (s.noteFiring f).frame = s.frame ∧ (s.noteFiring f).rotation = s.rotation ∧ (s.noteFiring f).stack = s.stack ∧
    (s.noteFiring f).calendar = s.calendar ∧ (s.noteFiring f).link = s.link ∧ (s.noteFiring f).owed = s.owed ∧
    (s.noteFiring f).pending = s.pending := by
  unfold State.noteFiring State.markDirty
  simp only
  repeat' split
  all_goals simp

@[simp] theorem State.noteFiring_phase (s : State) (f : Firing) : (s.noteFiring f).phase = s.phase :=
  (State.noteFiring_leaves s f).1
@[simp] theorem State.noteFiring_store (s : State) (f : Firing) : (s.noteFiring f).store = s.store :=
  (State.noteFiring_leaves s f).2.1
@[simp] theorem State.noteFiring_cells (s : State) (f : Firing) : (s.noteFiring f).cells = s.cells :=
  (State.noteFiring_leaves s f).2.2.1
@[simp] theorem State.noteFiring_frame (s : State) (f : Firing) : (s.noteFiring f).frame = s.frame :=
  (State.noteFiring_leaves s f).2.2.2.1
@[simp] theorem State.noteFiring_rotation (s : State) (f : Firing) : (s.noteFiring f).rotation = s.rotation :=
  (State.noteFiring_leaves s f).2.2.2.2.1
@[simp] theorem State.noteFiring_stack (s : State) (f : Firing) : (s.noteFiring f).stack = s.stack :=
  (State.noteFiring_leaves s f).2.2.2.2.2.1
@[simp] theorem State.noteFiring_calendar (s : State) (f : Firing) : (s.noteFiring f).calendar = s.calendar :=
  (State.noteFiring_leaves s f).2.2.2.2.2.2.1
@[simp] theorem State.noteFiring_link (s : State) (f : Firing) : (s.noteFiring f).link = s.link :=
  (State.noteFiring_leaves s f).2.2.2.2.2.2.2.1
@[simp] theorem State.noteFiring_owed (s : State) (f : Firing) : (s.noteFiring f).owed = s.owed :=
  (State.noteFiring_leaves s f).2.2.2.2.2.2.2.2.1
@[simp] theorem State.noteFiring_pending (s : State) (f : Firing) : (s.noteFiring f).pending = s.pending :=
  (State.noteFiring_leaves s f).2.2.2.2.2.2.2.2.2

/-- A firing never changes pages, cells, the calendar or the link (R119). -/
theorem State.fire_leaves (s : State) (f : Firing) :
    (s.fire f).phase = s.phase ∧ (s.fire f).store = s.store ∧ (s.fire f).cells = s.cells ∧
    (s.fire f).calendar = s.calendar ∧ (s.fire f).link = s.link ∧ (s.fire f).owed = s.owed ∧
    (s.fire f).pending = s.pending := by
  simp [State.fire]

@[simp] theorem State.fire_phase (s : State) (f : Firing) : (s.fire f).phase = s.phase := (State.fire_leaves s f).1
@[simp] theorem State.fire_store (s : State) (f : Firing) : (s.fire f).store = s.store := (State.fire_leaves s f).2.1
@[simp] theorem State.fire_cells (s : State) (f : Firing) : (s.fire f).cells = s.cells := (State.fire_leaves s f).2.2.1
@[simp] theorem State.fire_calendar (s : State) (f : Firing) : (s.fire f).calendar = s.calendar :=
  (State.fire_leaves s f).2.2.2.1
@[simp] theorem State.fire_link (s : State) (f : Firing) : (s.fire f).link = s.link := (State.fire_leaves s f).2.2.2.2.1
@[simp] theorem State.fire_owed (s : State) (f : Firing) : (s.fire f).owed = s.owed :=
  (State.fire_leaves s f).2.2.2.2.2.1
@[simp] theorem State.fire_pending (s : State) (f : Firing) : (s.fire f).pending = s.pending :=
  (State.fire_leaves s f).2.2.2.2.2.2

/-- A firing never changes pages, cells, the calendar or the link (R119). -/
theorem State.fireNext_leaves (s : State) :
    s.fireNext.phase = s.phase ∧ s.fireNext.store = s.store ∧ s.fireNext.cells = s.cells ∧
    s.fireNext.calendar = s.calendar ∧ s.fireNext.link = s.link ∧ s.fireNext.owed = s.owed ∧
    s.fireNext.pending = s.pending := by
  unfold State.fireNext
  repeat' split
  all_goals simp

@[simp] theorem State.fireNext_phase (s : State) : s.fireNext.phase = s.phase := (State.fireNext_leaves s).1
@[simp] theorem State.fireNext_store (s : State) : s.fireNext.store = s.store := (State.fireNext_leaves s).2.1
@[simp] theorem State.fireNext_cells (s : State) : s.fireNext.cells = s.cells := (State.fireNext_leaves s).2.2.1
@[simp] theorem State.fireNext_calendar (s : State) : s.fireNext.calendar = s.calendar :=
  (State.fireNext_leaves s).2.2.2.1
@[simp] theorem State.fireNext_link (s : State) : s.fireNext.link = s.link := (State.fireNext_leaves s).2.2.2.2.1
@[simp] theorem State.fireNext_owed (s : State) : s.fireNext.owed = s.owed := (State.fireNext_leaves s).2.2.2.2.2.1
@[simp] theorem State.fireNext_pending (s : State) : s.fireNext.pending = s.pending :=
  (State.fireNext_leaves s).2.2.2.2.2.2

/-- Firings never change pages, cells, the calendar or the link (R119). -/
theorem State.fireMany_leaves (s : State) (n : Nat) :
    (s.fireMany n).phase = s.phase ∧ (s.fireMany n).store = s.store ∧ (s.fireMany n).cells = s.cells ∧
    (s.fireMany n).calendar = s.calendar ∧ (s.fireMany n).link = s.link ∧ (s.fireMany n).owed = s.owed ∧
    (s.fireMany n).pending = s.pending := by
  induction n generalizing s with
  | zero => simp [State.fireMany]
  | succ n ih => simpa [State.fireMany] using ih s.fireNext

@[simp] theorem State.fireMany_phase (s : State) (n : Nat) : (s.fireMany n).phase = s.phase :=
  (State.fireMany_leaves s n).1
@[simp] theorem State.fireMany_store (s : State) (n : Nat) : (s.fireMany n).store = s.store :=
  (State.fireMany_leaves s n).2.1
@[simp] theorem State.fireMany_cells (s : State) (n : Nat) : (s.fireMany n).cells = s.cells :=
  (State.fireMany_leaves s n).2.2.1
@[simp] theorem State.fireMany_calendar (s : State) (n : Nat) : (s.fireMany n).calendar = s.calendar :=
  (State.fireMany_leaves s n).2.2.2.1
@[simp] theorem State.fireMany_link (s : State) (n : Nat) : (s.fireMany n).link = s.link :=
  (State.fireMany_leaves s n).2.2.2.2.1
@[simp] theorem State.fireMany_owed (s : State) (n : Nat) : (s.fireMany n).owed = s.owed :=
  (State.fireMany_leaves s n).2.2.2.2.2.1
@[simp] theorem State.fireMany_pending (s : State) (n : Nat) : (s.fireMany n).pending = s.pending :=
  (State.fireMany_leaves s n).2.2.2.2.2.2

/-- A finished walk never changes pages, cells, the calendar or the link (R119). -/
theorem State.finishWalk_leaves (s : State) :
    s.finishWalk.phase = s.phase ∧ s.finishWalk.store = s.store ∧ s.finishWalk.cells = s.cells ∧
    s.finishWalk.calendar = s.calendar ∧ s.finishWalk.link = s.link ∧ s.finishWalk.owed = s.owed ∧
    s.finishWalk.pending = s.pending := by
  unfold State.finishWalk
  split <;> simp

@[simp] theorem State.finishWalk_phase (s : State) : s.finishWalk.phase = s.phase := (State.finishWalk_leaves s).1
@[simp] theorem State.finishWalk_store (s : State) : s.finishWalk.store = s.store := (State.finishWalk_leaves s).2.1
@[simp] theorem State.finishWalk_cells (s : State) : s.finishWalk.cells = s.cells := (State.finishWalk_leaves s).2.2.1
@[simp] theorem State.finishWalk_calendar (s : State) : s.finishWalk.calendar = s.calendar :=
  (State.finishWalk_leaves s).2.2.2.1
@[simp] theorem State.finishWalk_link (s : State) : s.finishWalk.link = s.link := (State.finishWalk_leaves s).2.2.2.2.1
@[simp] theorem State.finishWalk_owed (s : State) : s.finishWalk.owed = s.owed :=
  (State.finishWalk_leaves s).2.2.2.2.2.1
@[simp] theorem State.finishWalk_pending (s : State) : s.finishWalk.pending = s.pending :=
  (State.finishWalk_leaves s).2.2.2.2.2.2

/-- A minute start taken whole never changes pages, cells, the calendar or the link (R119). -/
theorem State.takeMinute_leaves (s : State) :
    s.takeMinute.phase = s.phase ∧ s.takeMinute.store = s.store ∧ s.takeMinute.cells = s.cells ∧
    s.takeMinute.calendar = s.calendar ∧ s.takeMinute.link = s.link ∧
    s.takeMinute.owed = s.owed ∧ s.takeMinute.pending = s.pending := by
  simp [State.takeMinute]

@[simp] theorem State.takeMinute_phase (s : State) : s.takeMinute.phase = s.phase :=
  (State.takeMinute_leaves s).1
@[simp] theorem State.takeMinute_store (s : State) : s.takeMinute.store = s.store :=
  (State.takeMinute_leaves s).2.1
@[simp] theorem State.takeMinute_cells (s : State) : s.takeMinute.cells = s.cells :=
  (State.takeMinute_leaves s).2.2.1
@[simp] theorem State.takeMinute_calendar (s : State) : s.takeMinute.calendar = s.calendar :=
  (State.takeMinute_leaves s).2.2.2.1
@[simp] theorem State.takeMinute_link (s : State) : s.takeMinute.link = s.link :=
  (State.takeMinute_leaves s).2.2.2.2.1
@[simp] theorem State.takeMinute_owed (s : State) : s.takeMinute.owed = s.owed :=
  (State.takeMinute_leaves s).2.2.2.2.2.1
@[simp] theorem State.takeMinute_pending (s : State) : s.takeMinute.pending = s.pending :=
  (State.takeMinute_leaves s).2.2.2.2.2.2

/-- Minute starts taken whole never change pages, cells, the calendar or the link (R119). -/
theorem State.takeMinutes_leaves (s : State) (n : Nat) :
    (s.takeMinutes n).phase = s.phase ∧ (s.takeMinutes n).store = s.store ∧ (s.takeMinutes n).cells = s.cells ∧
    (s.takeMinutes n).calendar = s.calendar ∧ (s.takeMinutes n).link = s.link ∧
    (s.takeMinutes n).owed = s.owed ∧ (s.takeMinutes n).pending = s.pending := by
  induction n generalizing s with
  | zero => simp [State.takeMinutes]
  | succ n ih => simpa [State.takeMinutes] using ih s.takeMinute

@[simp] theorem State.takeMinutes_phase (s : State) (n : Nat) : (s.takeMinutes n).phase = s.phase :=
  (State.takeMinutes_leaves s n).1
@[simp] theorem State.takeMinutes_store (s : State) (n : Nat) : (s.takeMinutes n).store = s.store :=
  (State.takeMinutes_leaves s n).2.1
@[simp] theorem State.takeMinutes_cells (s : State) (n : Nat) : (s.takeMinutes n).cells = s.cells :=
  (State.takeMinutes_leaves s n).2.2.1
@[simp] theorem State.takeMinutes_calendar (s : State) (n : Nat) : (s.takeMinutes n).calendar = s.calendar :=
  (State.takeMinutes_leaves s n).2.2.2.1
@[simp] theorem State.takeMinutes_link (s : State) (n : Nat) : (s.takeMinutes n).link = s.link :=
  (State.takeMinutes_leaves s n).2.2.2.2.1
@[simp] theorem State.takeMinutes_owed (s : State) (n : Nat) : (s.takeMinutes n).owed = s.owed :=
  (State.takeMinutes_leaves s n).2.2.2.2.2.1
@[simp] theorem State.takeMinutes_pending (s : State) (n : Nat) : (s.takeMinutes n).pending = s.pending :=
  (State.takeMinutes_leaves s n).2.2.2.2.2.2

/-- Taking the minute starts that wait never changes pages, cells, the calendar or the link (R119). -/
theorem State.takeWaiting_leaves (s : State) :
    s.takeWaiting.phase = s.phase ∧ s.takeWaiting.store = s.store ∧ s.takeWaiting.cells = s.cells ∧
    s.takeWaiting.calendar = s.calendar ∧ s.takeWaiting.link = s.link ∧
    s.takeWaiting.owed = s.owed ∧ s.takeWaiting.pending = s.pending := by
  simp [State.takeWaiting]

@[simp] theorem State.takeWaiting_phase (s : State) : s.takeWaiting.phase = s.phase :=
  (State.takeWaiting_leaves s).1
@[simp] theorem State.takeWaiting_store (s : State) : s.takeWaiting.store = s.store :=
  (State.takeWaiting_leaves s).2.1
@[simp] theorem State.takeWaiting_cells (s : State) : s.takeWaiting.cells = s.cells :=
  (State.takeWaiting_leaves s).2.2.1
@[simp] theorem State.takeWaiting_calendar (s : State) : s.takeWaiting.calendar = s.calendar :=
  (State.takeWaiting_leaves s).2.2.2.1
@[simp] theorem State.takeWaiting_link (s : State) : s.takeWaiting.link = s.link :=
  (State.takeWaiting_leaves s).2.2.2.2.1
@[simp] theorem State.takeWaiting_owed (s : State) : s.takeWaiting.owed = s.owed :=
  (State.takeWaiting_leaves s).2.2.2.2.2.1
@[simp] theorem State.takeWaiting_pending (s : State) : s.takeWaiting.pending = s.pending :=
  (State.takeWaiting_leaves s).2.2.2.2.2.2

/-- A hand-off command never changes pages, cells, the calendar or the link (R119). -/
theorem State.handDue_leaves (s : State) (isIt : Firing → Bool) :
    (s.handDue isIt).phase = s.phase ∧ (s.handDue isIt).store = s.store ∧ (s.handDue isIt).cells = s.cells ∧
    (s.handDue isIt).calendar = s.calendar ∧ (s.handDue isIt).link = s.link ∧ (s.handDue isIt).owed = s.owed ∧
    (s.handDue isIt).pending = s.pending := by
  unfold State.handDue
  repeat' split
  all_goals simp

@[simp] theorem State.handDue_phase (s : State) (isIt : Firing → Bool) : (s.handDue isIt).phase = s.phase :=
  (State.handDue_leaves s isIt).1
@[simp] theorem State.handDue_store (s : State) (isIt : Firing → Bool) : (s.handDue isIt).store = s.store :=
  (State.handDue_leaves s isIt).2.1
@[simp] theorem State.handDue_cells (s : State) (isIt : Firing → Bool) : (s.handDue isIt).cells = s.cells :=
  (State.handDue_leaves s isIt).2.2.1
@[simp] theorem State.handDue_calendar (s : State) (isIt : Firing → Bool) : (s.handDue isIt).calendar = s.calendar :=
  (State.handDue_leaves s isIt).2.2.2.1
@[simp] theorem State.handDue_link (s : State) (isIt : Firing → Bool) : (s.handDue isIt).link = s.link :=
  (State.handDue_leaves s isIt).2.2.2.2.1
@[simp] theorem State.handDue_owed (s : State) (isIt : Firing → Bool) : (s.handDue isIt).owed = s.owed :=
  (State.handDue_leaves s isIt).2.2.2.2.2.1
@[simp] theorem State.handDue_pending (s : State) (isIt : Firing → Bool) : (s.handDue isIt).pending = s.pending :=
  (State.handDue_leaves s isIt).2.2.2.2.2.2

/-! ### What a walk comes to -/

/-- The schedule takes a minute start, or nothing changes (R119). -/
theorem State.beginWalk_cases (s : State) :
    (∃ m rest, s.schedule.walk = [] ∧ s.schedule.minuteStarts = m :: rest ∧
      s.beginWalk =
        s.setSchedule { s.schedule with minuteStarts := rest, walk := s.schedule.firings m }) ∨ s.beginWalk = s := by
  unfold State.beginWalk
  split
  · rename_i m rest hw hm
    exact .inl ⟨m, rest, hw, hm, rfl⟩
  · exact .inr rfl

/-- Steps 2 and 3 of a firing leave the rest of the walk and the minute starts. -/
@[simp] theorem State.noteFiring_walk (s : State) (f : Firing) : (s.noteFiring f).schedule.walk = s.schedule.walk := by
  unfold State.noteFiring State.markDirty
  simp only
  repeat' split
  all_goals simp

/-- A firing is taken off the front of the walk (R119). -/
theorem State.fireNext_walk (s : State) : s.fireNext.schedule.walk = s.schedule.walk.drop 1 := by
  unfold State.fireNext
  split
  · rename_i h
    simp [h]
  · rename_i f rest h
    simp [State.fire, h]

/-- Firings are taken off the front of the walk (R119). -/
theorem State.fireMany_walk (s : State) (n : Nat) : (s.fireMany n).schedule.walk = s.schedule.walk.drop n := by
  induction n generalizing s with
  | zero => rfl
  | succ n ih => rw [State.fireMany, ih, State.fireNext_walk, List.drop_drop, Nat.add_comm]

/-- After a walk is finished no firing of it is left (R119, R125). -/
@[simp] theorem State.finishWalk_walk (s : State) : s.finishWalk.schedule.walk = [] := by
  unfold State.finishWalk
  split
  · rw [State.fireMany_walk, List.drop_length]
  · simp

/-- Steps 2 and 3 of a firing leave the minute starts that wait. -/
@[simp] theorem State.noteFiring_minuteStarts (s : State) (f : Firing) :
    (s.noteFiring f).schedule.minuteStarts = s.schedule.minuteStarts := by
  unfold State.noteFiring State.markDirty
  simp only
  repeat' split
  all_goals simp

/-- A firing leaves the minute starts that wait. -/
@[simp] theorem State.fireNext_minuteStarts (s : State) : s.fireNext.schedule.minuteStarts = s.schedule.minuteStarts := by
  unfold State.fireNext
  split <;> simp [State.fire]

/-- Firings leave the minute starts that wait. -/
@[simp] theorem State.fireMany_minuteStarts (s : State) (n : Nat) :
    (s.fireMany n).schedule.minuteStarts = s.schedule.minuteStarts := by
  induction n generalizing s with
  | zero => rfl
  | succ n ih => rw [State.fireMany, ih, State.fireNext_minuteStarts]

/-- A finished walk leaves the minute starts that wait (R119). -/
@[simp] theorem State.finishWalk_minuteStarts (s : State) :
    s.finishWalk.schedule.minuteStarts = s.schedule.minuteStarts := by
  unfold State.finishWalk
  split <;> simp

/-- With no walk unfinished there is nothing to finish. -/
theorem State.finishWalk_of_walk_nil {s : State} (h : s.schedule.walk = []) : s.finishWalk = s := by
  unfold State.finishWalk
  split
  · rw [h]; rfl
  · rw [← h]; rfl

/-- A minute start taken whole leaves no walk, and one minute start fewer when none was begun (R119). -/
theorem State.takeMinute_cases (s : State) :
    s.takeMinute.schedule.walk = [] ∧
      ((s.schedule.walk = [] ∧ s.takeMinute.schedule.minuteStarts = s.schedule.minuteStarts.drop 1) ∨
        (s.schedule.walk ≠ [] ∧ s.takeMinute.schedule.minuteStarts = s.schedule.minuteStarts)) := by
  refine ⟨by simp [State.takeMinute], ?_⟩
  by_cases hw : s.schedule.walk = []
  · refine .inl ⟨hw, ?_⟩
    rw [State.takeMinute, State.finishWalk_minuteStarts, State.beginWalk, hw]
    cases hm : s.schedule.minuteStarts <;> simp [hm]
  · refine .inr ⟨hw, ?_⟩
    rw [State.takeMinute, State.finishWalk_minuteStarts, State.beginWalk]
    cases h : s.schedule.walk with
    | nil => exact absurd h hw
    | cons f rest => simp

/-- Once the waiting minute starts are taken, none waits and no walk is unfinished. -/
theorem State.takeMinutes_empty (s : State) (n : Nat)
    (h : s.schedule.minuteStarts.length + (if s.schedule.walk = [] then 0 else 1) ≤ n) :
    (s.takeMinutes n).schedule.walk = [] ∧ (s.takeMinutes n).schedule.minuteStarts = [] := by
  induction n generalizing s with
  | zero =>
    by_cases hw : s.schedule.walk = [] <;> simp [hw] at h
    exact ⟨hw, h⟩
  | succ n ih =>
    rw [State.takeMinutes]
    apply ih
    obtain ⟨h1, ⟨h2, h3⟩ | ⟨h2, h3⟩⟩ := s.takeMinute_cases
    · simp [h1, h2, h3] at h ⊢
      omega
    · simp [h1, h2, h3] at h ⊢
      omega

/-- Once the waiting minute starts are taken, no walk is unfinished. -/
@[simp] theorem State.takeWaiting_walk (s : State) : s.takeWaiting.schedule.walk = [] :=
  (s.takeMinutes_empty _ (by split <;> omega)).1

/-- Once the waiting minute starts are taken, none waits. -/
@[simp] theorem State.takeWaiting_minuteStarts (s : State) : s.takeWaiting.schedule.minuteStarts = [] :=
  (s.takeMinutes_empty _ (by split <;> omega)).2

/-- With no minute start waiting and no walk unfinished, taking one changes nothing. -/
theorem State.takeMinute_of_idle {s : State} (hw : s.schedule.walk = []) (hm : s.schedule.minuteStarts = []) :
    s.takeMinute = s := by
  have hb : s.beginWalk = s := by
    unfold State.beginWalk
    rw [hw, hm]
  rw [State.takeMinute, hb, State.finishWalk_of_walk_nil hw]

/-- With no minute start waiting and no walk unfinished, there is nothing to take. -/
theorem State.takeWaiting_of_idle {s : State} (hw : s.schedule.walk = []) (hm : s.schedule.minuteStarts = []) :
    s.takeWaiting = s := by
  rw [State.takeWaiting, hm]
  exact State.takeMinute_of_idle hw hm

end Sys2Proof.Machine
end

