-- ==== Sys2Proof/Laws/Calendar.lean ====
section
/-! SUPPORT. What the shared operations over the calendar and the prescaler change, and what they leave: for each operation the
blocks it touches, once, and from it the fields it leaves unchanged. -/

namespace Sys2Proof.Machine

open Sys2Proof

/-- A prescaler restart changes the prescaler and the frame engine (R95). -/
theorem State.restartPrescaler_leaves (s : State) :
    s.restartPrescaler.phase = s.phase ∧ s.restartPrescaler.store = s.store ∧ s.restartPrescaler.cells = s.cells ∧
    s.restartPrescaler.rotation = s.rotation ∧ s.restartPrescaler.stack = s.stack ∧
    s.restartPrescaler.schedule = s.schedule ∧ s.restartPrescaler.archive = s.archive ∧
    s.restartPrescaler.reports = s.reports ∧ s.restartPrescaler.link = s.link ∧ s.restartPrescaler.owed = s.owed ∧
    s.restartPrescaler.pending = s.pending := by
  simp [State.restartPrescaler]

@[simp] theorem State.restartPrescaler_phase (s : State) : s.restartPrescaler.phase = s.phase :=
  (State.restartPrescaler_leaves s).1
@[simp] theorem State.restartPrescaler_store (s : State) : s.restartPrescaler.store = s.store :=
  (State.restartPrescaler_leaves s).2.1
@[simp] theorem State.restartPrescaler_cells (s : State) : s.restartPrescaler.cells = s.cells :=
  (State.restartPrescaler_leaves s).2.2.1
@[simp] theorem State.restartPrescaler_rotation (s : State) : s.restartPrescaler.rotation = s.rotation :=
  (State.restartPrescaler_leaves s).2.2.2.1
@[simp] theorem State.restartPrescaler_stack (s : State) : s.restartPrescaler.stack = s.stack :=
  (State.restartPrescaler_leaves s).2.2.2.2.1
@[simp] theorem State.restartPrescaler_schedule (s : State) : s.restartPrescaler.schedule = s.schedule :=
  (State.restartPrescaler_leaves s).2.2.2.2.2.1
@[simp] theorem State.restartPrescaler_archive (s : State) : s.restartPrescaler.archive = s.archive :=
  (State.restartPrescaler_leaves s).2.2.2.2.2.2.1
@[simp] theorem State.restartPrescaler_reports (s : State) : s.restartPrescaler.reports = s.reports :=
  (State.restartPrescaler_leaves s).2.2.2.2.2.2.2.1
@[simp] theorem State.restartPrescaler_link (s : State) : s.restartPrescaler.link = s.link :=
  (State.restartPrescaler_leaves s).2.2.2.2.2.2.2.2.1
@[simp] theorem State.restartPrescaler_owed (s : State) : s.restartPrescaler.owed = s.owed :=
  (State.restartPrescaler_leaves s).2.2.2.2.2.2.2.2.2.1
@[simp] theorem State.restartPrescaler_pending (s : State) : s.restartPrescaler.pending = s.pending :=
  (State.restartPrescaler_leaves s).2.2.2.2.2.2.2.2.2.2

/-- A release changes the calendar and the frame engine (R102). -/
theorem State.releaseHold_leaves (s : State) :
    s.releaseHold.phase = s.phase ∧ s.releaseHold.store = s.store ∧ s.releaseHold.cells = s.cells ∧
    s.releaseHold.rotation = s.rotation ∧ s.releaseHold.stack = s.stack ∧ s.releaseHold.schedule = s.schedule ∧
    s.releaseHold.archive = s.archive ∧ s.releaseHold.reports = s.reports ∧ s.releaseHold.link = s.link ∧
    s.releaseHold.owed = s.owed ∧ s.releaseHold.pending = s.pending := by
  simp [State.releaseHold, State.runCalendar]

@[simp] theorem State.releaseHold_phase (s : State) : s.releaseHold.phase = s.phase := (State.releaseHold_leaves s).1
@[simp] theorem State.releaseHold_store (s : State) : s.releaseHold.store = s.store := (State.releaseHold_leaves s).2.1
@[simp] theorem State.releaseHold_cells (s : State) : s.releaseHold.cells = s.cells :=
  (State.releaseHold_leaves s).2.2.1
@[simp] theorem State.releaseHold_rotation (s : State) : s.releaseHold.rotation = s.rotation :=
  (State.releaseHold_leaves s).2.2.2.1
@[simp] theorem State.releaseHold_stack (s : State) : s.releaseHold.stack = s.stack :=
  (State.releaseHold_leaves s).2.2.2.2.1
@[simp] theorem State.releaseHold_schedule (s : State) : s.releaseHold.schedule = s.schedule :=
  (State.releaseHold_leaves s).2.2.2.2.2.1
@[simp] theorem State.releaseHold_archive (s : State) : s.releaseHold.archive = s.archive :=
  (State.releaseHold_leaves s).2.2.2.2.2.2.1
@[simp] theorem State.releaseHold_reports (s : State) : s.releaseHold.reports = s.reports :=
  (State.releaseHold_leaves s).2.2.2.2.2.2.2.1
@[simp] theorem State.releaseHold_link (s : State) : s.releaseHold.link = s.link :=
  (State.releaseHold_leaves s).2.2.2.2.2.2.2.2.1
@[simp] theorem State.releaseHold_owed (s : State) : s.releaseHold.owed = s.owed :=
  (State.releaseHold_leaves s).2.2.2.2.2.2.2.2.2.1
@[simp] theorem State.releaseHold_pending (s : State) : s.releaseHold.pending = s.pending :=
  (State.releaseHold_leaves s).2.2.2.2.2.2.2.2.2.2

/-- A counted second never changes pages, cells or the link: it changes the calendar, the minute starts handed over and the report
queue, and at the end of a minute comes after the minute starts that wait (R97; log entry 26). -/
theorem State.countSecond_leaves (s : State) :
    s.countSecond.phase = s.phase ∧ s.countSecond.store = s.store ∧ s.countSecond.cells = s.cells ∧
    s.countSecond.link = s.link ∧ s.countSecond.owed = s.owed ∧ s.countSecond.pending = s.pending := by
  unfold State.countSecond
  simp only
  repeat' split
  all_goals simp

@[simp] theorem State.countSecond_phase (s : State) : s.countSecond.phase = s.phase :=
  (State.countSecond_leaves s).1
@[simp] theorem State.countSecond_store (s : State) : s.countSecond.store = s.store :=
  (State.countSecond_leaves s).2.1
@[simp] theorem State.countSecond_cells (s : State) : s.countSecond.cells = s.cells :=
  (State.countSecond_leaves s).2.2.1
@[simp] theorem State.countSecond_link (s : State) : s.countSecond.link = s.link :=
  (State.countSecond_leaves s).2.2.2.1
@[simp] theorem State.countSecond_owed (s : State) : s.countSecond.owed = s.owed :=
  (State.countSecond_leaves s).2.2.2.2.1
@[simp] theorem State.countSecond_pending (s : State) : s.countSecond.pending = s.pending :=
  (State.countSecond_leaves s).2.2.2.2.2

/-- The calendar after a counted second: its fields one second later, and nothing else of it changed (R97). -/
@[simp] theorem State.countSecond_calendar (s : State) :
    s.countSecond.calendar = { s.calendar with fields := s.calendar.fields.nextSecond } := by
  unfold State.countSecond
  simp only
  repeat' split
  all_goals simp

/-- A counted hold second changes the calendar and the report queue (R104). -/
theorem State.countHold_leaves (s : State) (timer : Nat) :
    (s.countHold timer).phase = s.phase ∧ (s.countHold timer).store = s.store ∧ (s.countHold timer).cells = s.cells ∧
    (s.countHold timer).frame = s.frame ∧ (s.countHold timer).rotation = s.rotation ∧
    (s.countHold timer).stack = s.stack ∧ (s.countHold timer).schedule = s.schedule ∧
    (s.countHold timer).archive = s.archive ∧ (s.countHold timer).link = s.link ∧ (s.countHold timer).owed = s.owed ∧
    (s.countHold timer).pending = s.pending := by
  unfold State.countHold State.runCalendar
  split
  all_goals simp

@[simp] theorem State.countHold_phase (s : State) (timer : Nat) : (s.countHold timer).phase = s.phase :=
  (State.countHold_leaves s timer).1
@[simp] theorem State.countHold_store (s : State) (timer : Nat) : (s.countHold timer).store = s.store :=
  (State.countHold_leaves s timer).2.1
@[simp] theorem State.countHold_cells (s : State) (timer : Nat) : (s.countHold timer).cells = s.cells :=
  (State.countHold_leaves s timer).2.2.1
@[simp] theorem State.countHold_frame (s : State) (timer : Nat) : (s.countHold timer).frame = s.frame :=
  (State.countHold_leaves s timer).2.2.2.1
@[simp] theorem State.countHold_rotation (s : State) (timer : Nat) : (s.countHold timer).rotation = s.rotation :=
  (State.countHold_leaves s timer).2.2.2.2.1
@[simp] theorem State.countHold_stack (s : State) (timer : Nat) : (s.countHold timer).stack = s.stack :=
  (State.countHold_leaves s timer).2.2.2.2.2.1
@[simp] theorem State.countHold_schedule (s : State) (timer : Nat) : (s.countHold timer).schedule = s.schedule :=
  (State.countHold_leaves s timer).2.2.2.2.2.2.1
@[simp] theorem State.countHold_archive (s : State) (timer : Nat) : (s.countHold timer).archive = s.archive :=
  (State.countHold_leaves s timer).2.2.2.2.2.2.2.1
@[simp] theorem State.countHold_link (s : State) (timer : Nat) : (s.countHold timer).link = s.link :=
  (State.countHold_leaves s timer).2.2.2.2.2.2.2.2.1
@[simp] theorem State.countHold_owed (s : State) (timer : Nat) : (s.countHold timer).owed = s.owed :=
  (State.countHold_leaves s timer).2.2.2.2.2.2.2.2.2.1
@[simp] theorem State.countHold_pending (s : State) (timer : Nat) : (s.countHold timer).pending = s.pending :=
  (State.countHold_leaves s timer).2.2.2.2.2.2.2.2.2.2

/-- A boundary's cadence changes the prescaler and the frame engine (R49). -/
theorem State.keepCadence_leaves (s : State) :
    s.keepCadence.phase = s.phase ∧ s.keepCadence.store = s.store ∧ s.keepCadence.cells = s.cells ∧
    s.keepCadence.rotation = s.rotation ∧ s.keepCadence.stack = s.stack ∧ s.keepCadence.schedule = s.schedule ∧
    s.keepCadence.archive = s.archive ∧ s.keepCadence.reports = s.reports ∧ s.keepCadence.link = s.link ∧
    s.keepCadence.owed = s.owed ∧ s.keepCadence.pending = s.pending := by
  simp [State.keepCadence]

@[simp] theorem State.keepCadence_phase (s : State) : s.keepCadence.phase = s.phase := (State.keepCadence_leaves s).1
@[simp] theorem State.keepCadence_store (s : State) : s.keepCadence.store = s.store := (State.keepCadence_leaves s).2.1
@[simp] theorem State.keepCadence_cells (s : State) : s.keepCadence.cells = s.cells :=
  (State.keepCadence_leaves s).2.2.1
@[simp] theorem State.keepCadence_rotation (s : State) : s.keepCadence.rotation = s.rotation :=
  (State.keepCadence_leaves s).2.2.2.1
@[simp] theorem State.keepCadence_stack (s : State) : s.keepCadence.stack = s.stack :=
  (State.keepCadence_leaves s).2.2.2.2.1
@[simp] theorem State.keepCadence_schedule (s : State) : s.keepCadence.schedule = s.schedule :=
  (State.keepCadence_leaves s).2.2.2.2.2.1
@[simp] theorem State.keepCadence_archive (s : State) : s.keepCadence.archive = s.archive :=
  (State.keepCadence_leaves s).2.2.2.2.2.2.1
@[simp] theorem State.keepCadence_reports (s : State) : s.keepCadence.reports = s.reports :=
  (State.keepCadence_leaves s).2.2.2.2.2.2.2.1
@[simp] theorem State.keepCadence_link (s : State) : s.keepCadence.link = s.link :=
  (State.keepCadence_leaves s).2.2.2.2.2.2.2.2.1
@[simp] theorem State.keepCadence_owed (s : State) : s.keepCadence.owed = s.owed :=
  (State.keepCadence_leaves s).2.2.2.2.2.2.2.2.2.1
@[simp] theorem State.keepCadence_pending (s : State) : s.keepCadence.pending = s.pending :=
  (State.keepCadence_leaves s).2.2.2.2.2.2.2.2.2.2

/-! ### What a hold second does -/

/-- A counted hold second: the timer counts, or the hold expires with HOLD_EXPIRED and no prescaler restart (R104). -/
theorem State.countHold_cases (s : State) (timer : Nat) :
    (timer + 1 < Config.holdLimit ∧ s.countHold timer = s.setCalendar { s.calendar with state := .held (timer + 1) }) ∨
    (Config.holdLimit ≤ timer + 1 ∧ s.countHold timer = s.runCalendar.offer .holdExpired 0 0) := by
  unfold State.countHold
  split
  · exact .inl ⟨‹_›, rfl⟩
  · exact .inr ⟨Nat.le_of_not_lt ‹_›, rfl⟩

@[simp] theorem State.restartPrescaler_count (s : State) : s.restartPrescaler.calendar.prescaler = 0 := rfl
@[simp] theorem State.restartPrescaler_state (s : State) : s.restartPrescaler.calendar.state = s.calendar.state := rfl
@[simp] theorem State.restartPrescaler_fields (s : State) : s.restartPrescaler.calendar.fields = s.calendar.fields := rfl
@[simp] theorem State.restartPrescaler_blinkOn (s : State) : s.restartPrescaler.frame.blinkOn = true := rfl

end Sys2Proof.Machine
end

