-- ==== Sys2Proof/Laws/Link.lean ====
section
/-! SUPPORT. What the shared operations over the message link change, and what they leave: for each operation the
blocks it touches, once, and from it the fields it leaves unchanged. -/

namespace Sys2Proof.Machine

open Sys2Proof

/-- A produced reply changes the link alone (R162, R164). -/
theorem State.reply_leaves (s : State) (r : Reply) :
    (s.reply r).phase = s.phase ∧ (s.reply r).store = s.store ∧ (s.reply r).cells = s.cells ∧
    (s.reply r).frame = s.frame ∧ (s.reply r).rotation = s.rotation ∧ (s.reply r).stack = s.stack ∧
    (s.reply r).calendar = s.calendar ∧ (s.reply r).schedule = s.schedule ∧ (s.reply r).archive = s.archive ∧
    (s.reply r).reports = s.reports ∧ (s.reply r).owed = s.owed ∧ (s.reply r).pending = s.pending := by
  simp [State.reply]

@[simp] theorem State.reply_phase (s : State) (r : Reply) : (s.reply r).phase = s.phase := (State.reply_leaves s r).1
@[simp] theorem State.reply_store (s : State) (r : Reply) : (s.reply r).store = s.store := (State.reply_leaves s r).2.1
@[simp] theorem State.reply_cells (s : State) (r : Reply) : (s.reply r).cells = s.cells :=
  (State.reply_leaves s r).2.2.1
@[simp] theorem State.reply_frame (s : State) (r : Reply) : (s.reply r).frame = s.frame :=
  (State.reply_leaves s r).2.2.2.1
@[simp] theorem State.reply_rotation (s : State) (r : Reply) : (s.reply r).rotation = s.rotation :=
  (State.reply_leaves s r).2.2.2.2.1
@[simp] theorem State.reply_stack (s : State) (r : Reply) : (s.reply r).stack = s.stack :=
  (State.reply_leaves s r).2.2.2.2.2.1
@[simp] theorem State.reply_calendar (s : State) (r : Reply) : (s.reply r).calendar = s.calendar :=
  (State.reply_leaves s r).2.2.2.2.2.2.1
@[simp] theorem State.reply_schedule (s : State) (r : Reply) : (s.reply r).schedule = s.schedule :=
  (State.reply_leaves s r).2.2.2.2.2.2.2.1
@[simp] theorem State.reply_archive (s : State) (r : Reply) : (s.reply r).archive = s.archive :=
  (State.reply_leaves s r).2.2.2.2.2.2.2.2.1
@[simp] theorem State.reply_reports (s : State) (r : Reply) : (s.reply r).reports = s.reports :=
  (State.reply_leaves s r).2.2.2.2.2.2.2.2.2.1
@[simp] theorem State.reply_owed (s : State) (r : Reply) : (s.reply r).owed = s.owed :=
  (State.reply_leaves s r).2.2.2.2.2.2.2.2.2.2.1
@[simp] theorem State.reply_pending (s : State) (r : Reply) : (s.reply r).pending = s.pending :=
  (State.reply_leaves s r).2.2.2.2.2.2.2.2.2.2.2

/-- The receiver's move changes the link alone (R158). -/
theorem State.receive_leaves (s : State) (r : Receiver) :
    (s.receive r).phase = s.phase ∧ (s.receive r).store = s.store ∧ (s.receive r).cells = s.cells ∧
    (s.receive r).frame = s.frame ∧ (s.receive r).rotation = s.rotation ∧ (s.receive r).stack = s.stack ∧
    (s.receive r).calendar = s.calendar ∧ (s.receive r).schedule = s.schedule ∧ (s.receive r).archive = s.archive ∧
    (s.receive r).reports = s.reports ∧ (s.receive r).owed = s.owed ∧ (s.receive r).pending = s.pending := by
  simp [State.receive]

@[simp] theorem State.receive_phase (s : State) (r : Receiver) : (s.receive r).phase = s.phase :=
  (State.receive_leaves s r).1
@[simp] theorem State.receive_store (s : State) (r : Receiver) : (s.receive r).store = s.store :=
  (State.receive_leaves s r).2.1
@[simp] theorem State.receive_cells (s : State) (r : Receiver) : (s.receive r).cells = s.cells :=
  (State.receive_leaves s r).2.2.1
@[simp] theorem State.receive_frame (s : State) (r : Receiver) : (s.receive r).frame = s.frame :=
  (State.receive_leaves s r).2.2.2.1
@[simp] theorem State.receive_rotation (s : State) (r : Receiver) : (s.receive r).rotation = s.rotation :=
  (State.receive_leaves s r).2.2.2.2.1
@[simp] theorem State.receive_stack (s : State) (r : Receiver) : (s.receive r).stack = s.stack :=
  (State.receive_leaves s r).2.2.2.2.2.1
@[simp] theorem State.receive_calendar (s : State) (r : Receiver) : (s.receive r).calendar = s.calendar :=
  (State.receive_leaves s r).2.2.2.2.2.2.1
@[simp] theorem State.receive_schedule (s : State) (r : Receiver) : (s.receive r).schedule = s.schedule :=
  (State.receive_leaves s r).2.2.2.2.2.2.2.1
@[simp] theorem State.receive_archive (s : State) (r : Receiver) : (s.receive r).archive = s.archive :=
  (State.receive_leaves s r).2.2.2.2.2.2.2.2.1
@[simp] theorem State.receive_reports (s : State) (r : Receiver) : (s.receive r).reports = s.reports :=
  (State.receive_leaves s r).2.2.2.2.2.2.2.2.2.1
@[simp] theorem State.receive_owed (s : State) (r : Receiver) : (s.receive r).owed = s.owed :=
  (State.receive_leaves s r).2.2.2.2.2.2.2.2.2.2.1
@[simp] theorem State.receive_pending (s : State) (r : Receiver) : (s.receive r).pending = s.pending :=
  (State.receive_leaves s r).2.2.2.2.2.2.2.2.2.2.2

/-- An accepted request changes the link alone (R161). -/
theorem State.acceptRequest_leaves (s : State) (r : Request) :
    (s.acceptRequest r).phase = s.phase ∧ (s.acceptRequest r).store = s.store ∧ (s.acceptRequest r).cells = s.cells ∧
    (s.acceptRequest r).frame = s.frame ∧ (s.acceptRequest r).rotation = s.rotation ∧
    (s.acceptRequest r).stack = s.stack ∧ (s.acceptRequest r).calendar = s.calendar ∧
    (s.acceptRequest r).schedule = s.schedule ∧ (s.acceptRequest r).archive = s.archive ∧
    (s.acceptRequest r).reports = s.reports ∧ (s.acceptRequest r).owed = s.owed ∧
    (s.acceptRequest r).pending = s.pending := by
  simp [State.acceptRequest]

@[simp] theorem State.acceptRequest_phase (s : State) (r : Request) : (s.acceptRequest r).phase = s.phase :=
  (State.acceptRequest_leaves s r).1
@[simp] theorem State.acceptRequest_store (s : State) (r : Request) : (s.acceptRequest r).store = s.store :=
  (State.acceptRequest_leaves s r).2.1
@[simp] theorem State.acceptRequest_cells (s : State) (r : Request) : (s.acceptRequest r).cells = s.cells :=
  (State.acceptRequest_leaves s r).2.2.1
@[simp] theorem State.acceptRequest_frame (s : State) (r : Request) : (s.acceptRequest r).frame = s.frame :=
  (State.acceptRequest_leaves s r).2.2.2.1
@[simp] theorem State.acceptRequest_rotation (s : State) (r : Request) : (s.acceptRequest r).rotation = s.rotation :=
  (State.acceptRequest_leaves s r).2.2.2.2.1
@[simp] theorem State.acceptRequest_stack (s : State) (r : Request) : (s.acceptRequest r).stack = s.stack :=
  (State.acceptRequest_leaves s r).2.2.2.2.2.1
@[simp] theorem State.acceptRequest_calendar (s : State) (r : Request) : (s.acceptRequest r).calendar = s.calendar :=
  (State.acceptRequest_leaves s r).2.2.2.2.2.2.1
@[simp] theorem State.acceptRequest_schedule (s : State) (r : Request) : (s.acceptRequest r).schedule = s.schedule :=
  (State.acceptRequest_leaves s r).2.2.2.2.2.2.2.1
@[simp] theorem State.acceptRequest_archive (s : State) (r : Request) : (s.acceptRequest r).archive = s.archive :=
  (State.acceptRequest_leaves s r).2.2.2.2.2.2.2.2.1
@[simp] theorem State.acceptRequest_reports (s : State) (r : Request) : (s.acceptRequest r).reports = s.reports :=
  (State.acceptRequest_leaves s r).2.2.2.2.2.2.2.2.2.1
@[simp] theorem State.acceptRequest_owed (s : State) (r : Request) : (s.acceptRequest r).owed = s.owed :=
  (State.acceptRequest_leaves s r).2.2.2.2.2.2.2.2.2.2.1
@[simp] theorem State.acceptRequest_pending (s : State) (r : Request) : (s.acceptRequest r).pending = s.pending :=
  (State.acceptRequest_leaves s r).2.2.2.2.2.2.2.2.2.2.2

/-- A taking changes the link alone (R164). -/
theorem State.unhand_leaves (s : State) :
    s.unhand.phase = s.phase ∧ s.unhand.store = s.store ∧ s.unhand.cells = s.cells ∧ s.unhand.frame = s.frame ∧
    s.unhand.rotation = s.rotation ∧ s.unhand.stack = s.stack ∧ s.unhand.calendar = s.calendar ∧
    s.unhand.schedule = s.schedule ∧ s.unhand.archive = s.archive ∧ s.unhand.reports = s.reports ∧
    s.unhand.owed = s.owed ∧ s.unhand.pending = s.pending := by
  simp [State.unhand]

@[simp] theorem State.unhand_phase (s : State) : s.unhand.phase = s.phase := (State.unhand_leaves s).1
@[simp] theorem State.unhand_store (s : State) : s.unhand.store = s.store := (State.unhand_leaves s).2.1
@[simp] theorem State.unhand_cells (s : State) : s.unhand.cells = s.cells := (State.unhand_leaves s).2.2.1
@[simp] theorem State.unhand_frame (s : State) : s.unhand.frame = s.frame := (State.unhand_leaves s).2.2.2.1
@[simp] theorem State.unhand_rotation (s : State) : s.unhand.rotation = s.rotation := (State.unhand_leaves s).2.2.2.2.1
@[simp] theorem State.unhand_stack (s : State) : s.unhand.stack = s.stack := (State.unhand_leaves s).2.2.2.2.2.1
@[simp] theorem State.unhand_calendar (s : State) : s.unhand.calendar = s.calendar :=
  (State.unhand_leaves s).2.2.2.2.2.2.1
@[simp] theorem State.unhand_schedule (s : State) : s.unhand.schedule = s.schedule :=
  (State.unhand_leaves s).2.2.2.2.2.2.2.1
@[simp] theorem State.unhand_archive (s : State) : s.unhand.archive = s.archive :=
  (State.unhand_leaves s).2.2.2.2.2.2.2.2.1
@[simp] theorem State.unhand_reports (s : State) : s.unhand.reports = s.reports :=
  (State.unhand_leaves s).2.2.2.2.2.2.2.2.2.1
@[simp] theorem State.unhand_owed (s : State) : s.unhand.owed = s.owed := (State.unhand_leaves s).2.2.2.2.2.2.2.2.2.2.1
@[simp] theorem State.unhand_pending (s : State) : s.unhand.pending = s.pending :=
  (State.unhand_leaves s).2.2.2.2.2.2.2.2.2.2.2

/-- A hand-off changes the link alone (R164). -/
theorem State.handOff_leaves (s : State) :
    s.handOff.phase = s.phase ∧ s.handOff.store = s.store ∧ s.handOff.cells = s.cells ∧ s.handOff.frame = s.frame ∧
    s.handOff.rotation = s.rotation ∧ s.handOff.stack = s.stack ∧ s.handOff.calendar = s.calendar ∧
    s.handOff.schedule = s.schedule ∧ s.handOff.archive = s.archive ∧ s.handOff.reports = s.reports ∧
    s.handOff.owed = s.owed ∧ s.handOff.pending = s.pending := by
  unfold State.handOff
  repeat' split
  all_goals simp

@[simp] theorem State.handOff_phase (s : State) : s.handOff.phase = s.phase := (State.handOff_leaves s).1
@[simp] theorem State.handOff_store (s : State) : s.handOff.store = s.store := (State.handOff_leaves s).2.1
@[simp] theorem State.handOff_cells (s : State) : s.handOff.cells = s.cells := (State.handOff_leaves s).2.2.1
@[simp] theorem State.handOff_frame (s : State) : s.handOff.frame = s.frame := (State.handOff_leaves s).2.2.2.1
@[simp] theorem State.handOff_rotation (s : State) : s.handOff.rotation = s.rotation :=
  (State.handOff_leaves s).2.2.2.2.1
@[simp] theorem State.handOff_stack (s : State) : s.handOff.stack = s.stack := (State.handOff_leaves s).2.2.2.2.2.1
@[simp] theorem State.handOff_calendar (s : State) : s.handOff.calendar = s.calendar :=
  (State.handOff_leaves s).2.2.2.2.2.2.1
@[simp] theorem State.handOff_schedule (s : State) : s.handOff.schedule = s.schedule :=
  (State.handOff_leaves s).2.2.2.2.2.2.2.1
@[simp] theorem State.handOff_archive (s : State) : s.handOff.archive = s.archive :=
  (State.handOff_leaves s).2.2.2.2.2.2.2.2.1
@[simp] theorem State.handOff_reports (s : State) : s.handOff.reports = s.reports :=
  (State.handOff_leaves s).2.2.2.2.2.2.2.2.2.1
@[simp] theorem State.handOff_owed (s : State) : s.handOff.owed = s.owed :=
  (State.handOff_leaves s).2.2.2.2.2.2.2.2.2.2.1
@[simp] theorem State.handOff_pending (s : State) : s.handOff.pending = s.pending :=
  (State.handOff_leaves s).2.2.2.2.2.2.2.2.2.2.2

/-- A link refusal changes the link, or the report queue where it is dropped (R163). -/
theorem State.refuseFrame_leaves (s : State) (tag : Byte) (result : Result) :
    (s.refuseFrame tag result).phase = s.phase ∧ (s.refuseFrame tag result).store = s.store ∧
    (s.refuseFrame tag result).cells = s.cells ∧ (s.refuseFrame tag result).frame = s.frame ∧
    (s.refuseFrame tag result).rotation = s.rotation ∧ (s.refuseFrame tag result).stack = s.stack ∧
    (s.refuseFrame tag result).calendar = s.calendar ∧ (s.refuseFrame tag result).schedule = s.schedule ∧
    (s.refuseFrame tag result).archive = s.archive ∧ (s.refuseFrame tag result).owed = s.owed ∧
    (s.refuseFrame tag result).pending = s.pending := by
  unfold State.refuseFrame
  repeat' split
  all_goals simp

@[simp] theorem State.refuseFrame_phase (s : State) (tag : Byte) (result : Result) : (s.refuseFrame tag result).phase = s.phase :=
  (State.refuseFrame_leaves s tag result).1
@[simp] theorem State.refuseFrame_store (s : State) (tag : Byte) (result : Result) : (s.refuseFrame tag result).store = s.store :=
  (State.refuseFrame_leaves s tag result).2.1
@[simp] theorem State.refuseFrame_cells (s : State) (tag : Byte) (result : Result) : (s.refuseFrame tag result).cells = s.cells :=
  (State.refuseFrame_leaves s tag result).2.2.1
@[simp] theorem State.refuseFrame_frame (s : State) (tag : Byte) (result : Result) : (s.refuseFrame tag result).frame = s.frame :=
  (State.refuseFrame_leaves s tag result).2.2.2.1
@[simp] theorem State.refuseFrame_rotation (s : State) (tag : Byte) (result : Result) : (s.refuseFrame tag result).rotation = s.rotation :=
  (State.refuseFrame_leaves s tag result).2.2.2.2.1
@[simp] theorem State.refuseFrame_stack (s : State) (tag : Byte) (result : Result) : (s.refuseFrame tag result).stack = s.stack :=
  (State.refuseFrame_leaves s tag result).2.2.2.2.2.1
@[simp] theorem State.refuseFrame_calendar (s : State) (tag : Byte) (result : Result) : (s.refuseFrame tag result).calendar = s.calendar :=
  (State.refuseFrame_leaves s tag result).2.2.2.2.2.2.1
@[simp] theorem State.refuseFrame_schedule (s : State) (tag : Byte) (result : Result) : (s.refuseFrame tag result).schedule = s.schedule :=
  (State.refuseFrame_leaves s tag result).2.2.2.2.2.2.2.1
@[simp] theorem State.refuseFrame_archive (s : State) (tag : Byte) (result : Result) : (s.refuseFrame tag result).archive = s.archive :=
  (State.refuseFrame_leaves s tag result).2.2.2.2.2.2.2.2.1
@[simp] theorem State.refuseFrame_owed (s : State) (tag : Byte) (result : Result) : (s.refuseFrame tag result).owed = s.owed :=
  (State.refuseFrame_leaves s tag result).2.2.2.2.2.2.2.2.2.1
@[simp] theorem State.refuseFrame_pending (s : State) (tag : Byte) (result : Result) : (s.refuseFrame tag result).pending = s.pending :=
  (State.refuseFrame_leaves s tag result).2.2.2.2.2.2.2.2.2.2

/-- The link's checks change the link and the report queue (R161). -/
theorem State.checkRequest_leaves (s : State) (r : Request) :
    (s.checkRequest r).phase = s.phase ∧ (s.checkRequest r).store = s.store ∧ (s.checkRequest r).cells = s.cells ∧
    (s.checkRequest r).frame = s.frame ∧ (s.checkRequest r).rotation = s.rotation ∧
    (s.checkRequest r).stack = s.stack ∧ (s.checkRequest r).calendar = s.calendar ∧
    (s.checkRequest r).schedule = s.schedule ∧ (s.checkRequest r).archive = s.archive ∧
    (s.checkRequest r).owed = s.owed ∧ (s.checkRequest r).pending = s.pending := by
  unfold State.checkRequest
  repeat' split
  all_goals simp

@[simp] theorem State.checkRequest_phase (s : State) (r : Request) : (s.checkRequest r).phase = s.phase :=
  (State.checkRequest_leaves s r).1
@[simp] theorem State.checkRequest_store (s : State) (r : Request) : (s.checkRequest r).store = s.store :=
  (State.checkRequest_leaves s r).2.1
@[simp] theorem State.checkRequest_cells (s : State) (r : Request) : (s.checkRequest r).cells = s.cells :=
  (State.checkRequest_leaves s r).2.2.1
@[simp] theorem State.checkRequest_frame (s : State) (r : Request) : (s.checkRequest r).frame = s.frame :=
  (State.checkRequest_leaves s r).2.2.2.1
@[simp] theorem State.checkRequest_rotation (s : State) (r : Request) : (s.checkRequest r).rotation = s.rotation :=
  (State.checkRequest_leaves s r).2.2.2.2.1
@[simp] theorem State.checkRequest_stack (s : State) (r : Request) : (s.checkRequest r).stack = s.stack :=
  (State.checkRequest_leaves s r).2.2.2.2.2.1
@[simp] theorem State.checkRequest_calendar (s : State) (r : Request) : (s.checkRequest r).calendar = s.calendar :=
  (State.checkRequest_leaves s r).2.2.2.2.2.2.1
@[simp] theorem State.checkRequest_schedule (s : State) (r : Request) : (s.checkRequest r).schedule = s.schedule :=
  (State.checkRequest_leaves s r).2.2.2.2.2.2.2.1
@[simp] theorem State.checkRequest_archive (s : State) (r : Request) : (s.checkRequest r).archive = s.archive :=
  (State.checkRequest_leaves s r).2.2.2.2.2.2.2.2.1
@[simp] theorem State.checkRequest_owed (s : State) (r : Request) : (s.checkRequest r).owed = s.owed :=
  (State.checkRequest_leaves s r).2.2.2.2.2.2.2.2.2.1
@[simp] theorem State.checkRequest_pending (s : State) (r : Request) : (s.checkRequest r).pending = s.pending :=
  (State.checkRequest_leaves s r).2.2.2.2.2.2.2.2.2.2

/-- A received byte changes the link and the report queue (R158). -/
theorem State.takeByte_leaves (s : State) (b : Byte) :
    (s.takeByte b).phase = s.phase ∧ (s.takeByte b).store = s.store ∧ (s.takeByte b).cells = s.cells ∧
    (s.takeByte b).frame = s.frame ∧ (s.takeByte b).rotation = s.rotation ∧ (s.takeByte b).stack = s.stack ∧
    (s.takeByte b).calendar = s.calendar ∧ (s.takeByte b).schedule = s.schedule ∧ (s.takeByte b).archive = s.archive ∧
    (s.takeByte b).owed = s.owed ∧ (s.takeByte b).pending = s.pending := by
  unfold State.takeByte
  repeat' split
  all_goals simp

@[simp] theorem State.takeByte_phase (s : State) (b : Byte) : (s.takeByte b).phase = s.phase :=
  (State.takeByte_leaves s b).1
@[simp] theorem State.takeByte_store (s : State) (b : Byte) : (s.takeByte b).store = s.store :=
  (State.takeByte_leaves s b).2.1
@[simp] theorem State.takeByte_cells (s : State) (b : Byte) : (s.takeByte b).cells = s.cells :=
  (State.takeByte_leaves s b).2.2.1
@[simp] theorem State.takeByte_frame (s : State) (b : Byte) : (s.takeByte b).frame = s.frame :=
  (State.takeByte_leaves s b).2.2.2.1
@[simp] theorem State.takeByte_rotation (s : State) (b : Byte) : (s.takeByte b).rotation = s.rotation :=
  (State.takeByte_leaves s b).2.2.2.2.1
@[simp] theorem State.takeByte_stack (s : State) (b : Byte) : (s.takeByte b).stack = s.stack :=
  (State.takeByte_leaves s b).2.2.2.2.2.1
@[simp] theorem State.takeByte_calendar (s : State) (b : Byte) : (s.takeByte b).calendar = s.calendar :=
  (State.takeByte_leaves s b).2.2.2.2.2.2.1
@[simp] theorem State.takeByte_schedule (s : State) (b : Byte) : (s.takeByte b).schedule = s.schedule :=
  (State.takeByte_leaves s b).2.2.2.2.2.2.2.1
@[simp] theorem State.takeByte_archive (s : State) (b : Byte) : (s.takeByte b).archive = s.archive :=
  (State.takeByte_leaves s b).2.2.2.2.2.2.2.2.1
@[simp] theorem State.takeByte_owed (s : State) (b : Byte) : (s.takeByte b).owed = s.owed :=
  (State.takeByte_leaves s b).2.2.2.2.2.2.2.2.2.1
@[simp] theorem State.takeByte_pending (s : State) (b : Byte) : (s.takeByte b).pending = s.pending :=
  (State.takeByte_leaves s b).2.2.2.2.2.2.2.2.2.2

/-- Received bytes change the link and the report queue (R158). -/
theorem State.takeBytes_leaves (s : State) (bytes : List Byte) :
    (s.takeBytes bytes).phase = s.phase ∧ (s.takeBytes bytes).store = s.store ∧ (s.takeBytes bytes).cells = s.cells ∧
    (s.takeBytes bytes).frame = s.frame ∧ (s.takeBytes bytes).rotation = s.rotation ∧
    (s.takeBytes bytes).stack = s.stack ∧ (s.takeBytes bytes).calendar = s.calendar ∧
    (s.takeBytes bytes).schedule = s.schedule ∧ (s.takeBytes bytes).archive = s.archive ∧
    (s.takeBytes bytes).owed = s.owed ∧ (s.takeBytes bytes).pending = s.pending := by
  induction bytes generalizing s with
  | nil => simp [State.takeBytes]
  | cons b rest ih => simpa [State.takeBytes] using ih (s.takeByte b)

@[simp] theorem State.takeBytes_phase (s : State) (bytes : List Byte) : (s.takeBytes bytes).phase = s.phase :=
  (State.takeBytes_leaves s bytes).1
@[simp] theorem State.takeBytes_store (s : State) (bytes : List Byte) : (s.takeBytes bytes).store = s.store :=
  (State.takeBytes_leaves s bytes).2.1
@[simp] theorem State.takeBytes_cells (s : State) (bytes : List Byte) : (s.takeBytes bytes).cells = s.cells :=
  (State.takeBytes_leaves s bytes).2.2.1
@[simp] theorem State.takeBytes_frame (s : State) (bytes : List Byte) : (s.takeBytes bytes).frame = s.frame :=
  (State.takeBytes_leaves s bytes).2.2.2.1
@[simp] theorem State.takeBytes_rotation (s : State) (bytes : List Byte) : (s.takeBytes bytes).rotation = s.rotation :=
  (State.takeBytes_leaves s bytes).2.2.2.2.1
@[simp] theorem State.takeBytes_stack (s : State) (bytes : List Byte) : (s.takeBytes bytes).stack = s.stack :=
  (State.takeBytes_leaves s bytes).2.2.2.2.2.1
@[simp] theorem State.takeBytes_calendar (s : State) (bytes : List Byte) : (s.takeBytes bytes).calendar = s.calendar :=
  (State.takeBytes_leaves s bytes).2.2.2.2.2.2.1
@[simp] theorem State.takeBytes_schedule (s : State) (bytes : List Byte) : (s.takeBytes bytes).schedule = s.schedule :=
  (State.takeBytes_leaves s bytes).2.2.2.2.2.2.2.1
@[simp] theorem State.takeBytes_archive (s : State) (bytes : List Byte) : (s.takeBytes bytes).archive = s.archive :=
  (State.takeBytes_leaves s bytes).2.2.2.2.2.2.2.2.1
@[simp] theorem State.takeBytes_owed (s : State) (bytes : List Byte) : (s.takeBytes bytes).owed = s.owed :=
  (State.takeBytes_leaves s bytes).2.2.2.2.2.2.2.2.2.1
@[simp] theorem State.takeBytes_pending (s : State) (bytes : List Byte) : (s.takeBytes bytes).pending = s.pending :=
  (State.takeBytes_leaves s bytes).2.2.2.2.2.2.2.2.2.2

/-! ### What the link does with a request -/

/-- The owner takes the request that the link has handed over (R164). -/
theorem takeRequest_handed {r : Request} {owner : State → Taken} {s : State} (h : s.link.handed = some r) :
    takeRequest r owner s = s.unhand.conclude r.tag (owner s.unhand) := by
  simp [takeRequest, h, State.takeHanded]

/-- A request that is not handed over is sent, and taken where the link accepts it and hands it over at once. -/
theorem takeRequest_sent {r : Request} {owner : State → Taken} {s : State} (h : s.link.handed ≠ some r) :
    takeRequest r owner s =
      if s.link.inbox = [] ∧ (s.takeBytes r.frameBytes).link.inbox = [r] ∧ (s.takeBytes r.frameBytes).canHandOff = true then
        (s.takeBytes r.frameBytes).handOff.takeHanded r.tag owner
      else s.takeBytes r.frameBytes := by
  simp [takeRequest, h]

@[simp] theorem State.conclude_ok (s : State) (tag : Byte) (payload : List Byte) (s' : State) :
    s.conclude tag (.ok payload s') = s'.reply ⟨tag, .ok, payload, false⟩ := rfl
@[simp] theorem State.conclude_refused (s : State) (tag : Byte) (result : Result) (payload : List Byte) :
    s.conclude tag (.refused result payload) = s.reply ⟨tag, result, payload, false⟩ := rfl
@[simp] theorem State.conclude_deferred (s : State) (tag : Byte) (s' : State) : s.conclude tag (.deferred s') = s' := rfl
@[simp] theorem State.conclude_restart (s : State) (tag : Byte) :
    s.conclude tag .restart = s.reply ⟨tag, .ok, [], true⟩ := rfl

@[simp] theorem State.unhand_link (s : State) : s.unhand.link = { s.link with handed := none } := rfl
@[simp] theorem State.reply_link (s : State) (r : Reply) :
    (s.reply r).link =
      { s.link with unanswered := s.link.unanswered.erase r.tag, replies := s.link.replies ++ [r] } := rfl
@[simp] theorem State.receive_link (s : State) (r : Receiver) : (s.receive r).link = { s.link with receiver := r } := rfl

/-- The link hands over the oldest inbox request, or nothing changes (R164). -/
theorem State.handOff_cases (s : State) :
    (∃ r rest, s.link.inbox = r :: rest ∧ s.canHandOff = true ∧
      s.handOff = s.setLink { s.link with inbox := rest, handed := some r }) ∨
    ((s.link.inbox = [] ∨ s.canHandOff = false) ∧ s.handOff = s) := by
  unfold State.handOff
  cases h : s.link.inbox with
  | nil => exact .inr ⟨.inl rfl, rfl⟩
  | cons r rest =>
    cases hc : s.canHandOff
    · exact .inr ⟨.inr rfl, by simp⟩
    · exact .inl ⟨r, rest, rfl, rfl, by simp⟩

/-- During a start received bytes are ignored (R172). -/
theorem State.takeByte_starting {s : State} (h : s.listening = false) (b : Byte) : s.takeByte b = s := by
  simp [State.takeByte, h]

/-- See `State.takeByte_starting`. -/
theorem State.takeBytes_starting {s : State} (h : s.listening = false) (bytes : List Byte) : s.takeBytes bytes = s := by
  induction bytes with
  | nil => rfl
  | cons b rest ih => simpa [State.takeBytes, State.takeByte_starting h] using ih

end Sys2Proof.Machine
end

