-- ==== Sys2Proof/Laws/LinkApart.lean ====
section
/-! SUPPORT. The blocks' shared operations neither read nor write the link: each commutes with an update of the link's state, so
that the taking of a request and what its owner does may be told in either order (R164, R167). -/

namespace Sys2Proof.Machine

open Sys2Proof

/-- An update of the link leaves what the other blocks read. -/
@[simp] theorem State.listening_setLink (s : State) (l : Link) : (s.setLink l).listening = s.listening := rfl
@[simp] theorem State.present_setLink (s : State) (l : Link) (id : Nat) : (s.setLink l).present id = s.present id := rfl
@[simp] theorem State.findPage_setLink (s : State) (l : Link) (id : Nat) : (s.setLink l).findPage id = s.findPage id := rfl
@[simp] theorem State.firstStep_setLink (s : State) (l : Link) (steps : List Step) :
    (s.setLink l).firstStep steps = s.firstStep steps := rfl
@[simp] theorem State.nextStep_setLink (s : State) (l : Link) (steps : List Step) (k : Nat) :
    (s.setLink l).nextStep steps k = s.nextStep steps k := rfl

/-- What holds of both sides of a choice holds of the choice. -/
theorem ite_apart {α : Type} {c : Prop} {i j : Decidable c} {a b x y : α} (f : α → α) (ha : a = f x) (hb : b = f y) :
    @ite α c i a b = f (@ite α c j x y) := by
  by_cases h : c
  · exact (if_pos h).trans (ha.trans (congrArg f (if_pos h).symm))
  · exact (if_neg h).trans (hb.trans (congrArg f (if_neg h).symm))

/-- Two updates of different blocks commute. -/
theorem State.setLink_setReports (s : State) (l : Link) (x : ReportQueue) :
    (s.setLink l).setReports x = (s.setReports x).setLink l := rfl
theorem State.setLink_setStack (s : State) (l : Link) (x : OverrideStack) :
    (s.setLink l).setStack x = (s.setStack x).setLink l := rfl
theorem State.setLink_setRotation (s : State) (l : Link) (x : Rotation) :
    (s.setLink l).setRotation x = (s.setRotation x).setLink l := rfl
theorem State.setLink_setFrame (s : State) (l : Link) (x : FrameEngine) :
    (s.setLink l).setFrame x = (s.setFrame x).setLink l := rfl
theorem State.setLink_setSchedule (s : State) (l : Link) (x : Schedule) :
    (s.setLink l).setSchedule x = (s.setSchedule x).setLink l := rfl
theorem State.setLink_setArchive (s : State) (l : Link) (x : Archive) :
    (s.setLink l).setArchive x = (s.setArchive x).setLink l := rfl
theorem State.setLink_setStore (s : State) (l : Link) (x : PageStore) :
    (s.setLink l).setStore x = (s.setStore x).setLink l := rfl
theorem State.setLink_setCalendar (s : State) (l : Link) (x : Calendar) :
    (s.setLink l).setCalendar x = (s.setCalendar x).setLink l := rfl

theorem State.offerStamped_setLink (s : State) (l : Link) (stamp : Option Stamp) (k : Kind) (subject detail : Nat) :
    (s.setLink l).offerStamped stamp k subject detail = (s.offerStamped stamp k subject detail).setLink l := rfl

theorem State.offer_setLink (s : State) (l : Link) (k : Kind) (subject detail : Nat) :
    (s.setLink l).offer k subject detail = (s.offer k subject detail).setLink l := rfl

theorem State.recompute_setLink (s : State) (l : Link) : (s.setLink l).recompute = s.recompute.setLink l := by
  exact ite_apart (fun t : State => t.setLink l) rfl rfl

theorem State.reseat_setLink (s : State) (l : Link) (list : Fin 4) :
    (s.setLink l).reseat list = (s.reseat list).setLink l := by
  simp only [State.reseat, State.setLink_rotation, State.firstStep_setLink, State.setLink_setRotation,
    State.offer_setLink]
  cases s.firstStep s.rotation.lists[list].steps with
  | some j => rfl
  | none => exact ite_apart (fun t : State => t.setLink l) rfl rfl

theorem State.reseatAndOffer_setLink (s : State) (l : Link) (list : Fin 4) :
    (s.setLink l).reseatAndOffer list = (s.reseatAndOffer list).setLink l := by
  rw [State.reseatAndOffer, State.reseat_setLink, State.recompute_setLink]; rfl

theorem State.offerEnded_setLink (s : State) (l : Link) (detail : Nat) (gone : List Override) :
    (s.setLink l).offerEnded detail gone = (s.offerEnded detail gone).setLink l := by
  induction gone generalizing s with
  | nil => rfl
  | cons o rest ih => rw [State.offerEnded, State.offer_setLink, ih]; rfl

theorem State.endOverrides_setLink (s : State) (l : Link) (gone : Override → Bool) (detail : Nat) :
    (s.setLink l).endOverrides gone detail = (s.endOverrides gone detail).setLink l := by
  simp only [State.endOverrides, State.setLink_stack, State.setLink_setStack, State.offerEnded_setLink]

theorem State.admitRecord_setLink (s : State) (l : Link) (new : Override) :
    (s.setLink l).admitRecord new = ((s.admitRecord new).1, (s.admitRecord new).2.setLink l) := by
  let f : Admission × State → Admission × State := fun p => (p.1, p.2.setLink l)
  simp only [State.admitRecord, State.setLink_stack, State.setLink_setStack, State.offer_setLink]
  refine ite_apart f rfl (ite_apart f rfl (ite_apart f ?_ rfl))
  cases s.stack.records.find? (·.priority == lowestPriority s.stack.records) <;> rfl

theorem State.takeShow_setLink (s : State) (l : Link) (slot page priority duration : Nat) :
    (s.setLink l).takeShow slot page priority duration = (s.takeShow slot page priority duration).setLink l := by
  simp only [State.takeShow, State.present_setLink, State.admitRecord_setLink, State.offer_setLink]
  refine ite_apart (fun t : State => t.setLink l) ?_ rfl
  rcases s.admitRecord ⟨.schedule slot, page, priority, readDuration duration⟩ with ⟨a, t⟩
  cases a <;> first | exact State.recompute_setLink t l | rfl

theorem State.takeClearBelow_setLink (s : State) (l : Link) (priority : Nat) :
    (s.setLink l).takeClearBelow priority = (s.takeClearBelow priority).setLink l := by
  simp only [State.takeClearBelow, State.endOverrides_setLink, State.recompute_setLink]

theorem State.rotationPageGone_setLink (s : State) (l : Link) (page : Nat) :
    (s.setLink l).rotationPageGone page = (s.rotationPageGone page).setLink l := by
  simp only [State.rotationPageGone, State.setLink_rotation, State.nextStep_setLink, State.setLink_setRotation,
    State.offer_setLink]
  cases s.rotation.seat with
  | none => rfl
  | some seat =>
    refine ite_apart (fun t : State => t.setLink l) ?_ rfl
    cases s.nextStep s.rotation.activeList.steps seat.cursor <;> rfl

theorem State.rotationPageCreated_setLink (s : State) (l : Link) (page : Nat) :
    (s.setLink l).rotationPageCreated page = (s.rotationPageCreated page).setLink l := by
  exact ite_apart (fun t : State => t.setLink l) (State.reseatAndOffer_setLink ..) rfl

theorem State.removePage_setLink (s : State) (l : Link) (id : Nat) :
    (s.setLink l).removePage id = (s.removePage id).setLink l := by
  simp only [State.removePage, State.markDirty, State.setLink_store, State.setLink_setStore, State.setLink_archive,
    State.setLink_setArchive, State.endOverrides_setLink, State.rotationPageGone_setLink, State.recompute_setLink]

theorem State.handAction_setLink (s : State) (l : Link) (slot : Nat) (a : Action) :
    (s.setLink l).handAction slot a = (s.handAction slot a).setLink l := by
  cases a with
  | showPage page priority duration => exact State.takeShow_setLink ..
  | selectList list => exact State.reseatAndOffer_setLink ..
  | clearBelow priority => exact State.takeClearBelow_setLink ..
  | display mode => rfl

theorem State.noteFiring_setLink (s : State) (l : Link) (f : Firing) :
    (s.setLink l).noteFiring f = (s.noteFiring f).setLink l := by
  unfold State.noteFiring
  cases f.entry.report <;> cases f.entry.once <;> rfl

theorem State.fire_setLink (s : State) (l : Link) (f : Firing) : (s.setLink l).fire f = (s.fire f).setLink l := by
  simp only [State.fire, State.handAction_setLink, State.noteFiring_setLink]

theorem State.fireNext_setLink (s : State) (l : Link) : (s.setLink l).fireNext = s.fireNext.setLink l := by
  simp only [State.fireNext, State.setLink_schedule, State.setLink_setSchedule, State.fire_setLink]
  cases s.schedule.walk <;> rfl

theorem State.fireMany_setLink (s : State) (l : Link) (n : Nat) : (s.setLink l).fireMany n = (s.fireMany n).setLink l := by
  induction n generalizing s with
  | zero => rfl
  | succ n ih => rw [State.fireMany, State.fireNext_setLink, ih]; rfl

theorem State.beginWalk_setLink (s : State) (l : Link) : (s.setLink l).beginWalk = s.beginWalk.setLink l := by
  simp only [State.beginWalk, State.setLink_schedule, State.setLink_setSchedule]
  cases s.schedule.walk <;> cases s.schedule.minuteStarts <;> rfl

theorem State.finishWalk_setLink (s : State) (l : Link) : (s.setLink l).finishWalk = s.finishWalk.setLink l := by
  exact ite_apart (fun t : State => t.setLink l) (State.fireMany_setLink ..) rfl

theorem State.takeMinute_setLink (s : State) (l : Link) : (s.setLink l).takeMinute = s.takeMinute.setLink l := by
  simp only [State.takeMinute, State.beginWalk_setLink, State.finishWalk_setLink]

theorem State.takeMinutes_setLink (s : State) (l : Link) (n : Nat) :
    (s.setLink l).takeMinutes n = (s.takeMinutes n).setLink l := by
  induction n generalizing s with
  | zero => rfl
  | succ n ih => rw [State.takeMinutes, State.takeMinute_setLink, ih]; rfl

theorem State.takeWaiting_setLink (s : State) (l : Link) : (s.setLink l).takeWaiting = s.takeWaiting.setLink l := by
  simp only [State.takeWaiting, State.setLink_schedule, State.takeMinutes_setLink]

end Sys2Proof.Machine
end

