-- ==== Sys2Proof/Laws/PerInstr.lean ====
section
/-! SUPPORT. For every command: where it is a well-formed request, its tag is one the link accepts and its payload length is one
the link allows for its code (R161 checks 1, 4 and 5). -/

namespace Sys2Proof

/-- A list of pairs takes two bytes for each. -/
theorem pairBytes_length (l : List (Byte × Byte)) : (pairBytes l).length = 2 * l.length := by
  induction l with
  | nil => rfl
  | cons p rest ih => obtain ⟨x, y⟩ := p; simp [pairBytes, ih]; omega

end Sys2Proof

namespace Sys2Proof.Laws.WireLength

open Sys2Proof

/-- A well-formed request command stands for a request that passes the link's checks of tag, code and payload length (R161). -/
def Statement (i : Instr) : Prop :=
  i.wellFormed = true → ∀ r, i.toRequest = some r →
    r.tag.toNat ≤ 15 ∧ ∃ l, lengthRule r.code = some l ∧ l.allows r.payload.length = true

/-- A request of a legal tag, a known code and a payload length that the code's rule allows. -/
theorem allowed {tag code : Byte} {payload : List Byte} {r : Request} {l : LengthRule} (h : tagOk tag = true)
    (hr : some (⟨tag, code, payload⟩ : Request) = some r) (hl : lengthRule code = some l)
    (ha : l.allows payload.length = true) :
    r.tag.toNat ≤ 15 ∧ ∃ l, lengthRule r.code = some l ∧ l.allows r.payload.length = true := by
  obtain rfl := Option.some.inj hr
  exact ⟨of_decide_eq_true h, l, hl, ha⟩

/-- A length within a rule's bounds, for a rule without the even-length condition. -/
theorem allows_of_bounds {lo hi n : Nat} (hlo : lo ≤ n) (hhi : n ≤ hi) : (LengthRule.mk lo hi false).allows n = true := by
  simp [LengthRule.allows, hlo, hhi]

theorem ping : ∀ tag bytes, Statement (.ping tag bytes) :=
  fun _ bytes h _ hr =>
    have h' := Bool.and_eq_true_iff.mp (h : (tagOk _ && decide (bytes.length ≤ 63)) = true)
    allowed (l := ⟨0, 63, false⟩) h'.1 hr rfl (allows_of_bounds (Nat.zero_le _) (of_decide_eq_true h'.2))

theorem identify : ∀ tag, Statement (.identify tag) :=
  fun _ h _ hr => allowed (l := ⟨0, 0, false⟩) h hr rfl rfl

theorem status : ∀ tag, Statement (.status tag) :=
  fun _ h _ hr => allowed (l := ⟨0, 0, false⟩) h hr rfl rfl

theorem restart : ∀ tag, Statement (.restart tag) :=
  fun _ h _ hr => allowed (l := ⟨0, 0, false⟩) h hr rfl rfl

theorem fetchReports : ∀ tag max, Statement (.fetchReports tag max) :=
  fun _ _ h _ hr => allowed (l := ⟨1, 1, false⟩) h hr rfl rfl

theorem setReportMask : ∀ tag mask, Statement (.setReportMask tag mask) :=
  fun _ _ h _ hr => allowed (l := ⟨2, 2, false⟩) h hr rfl rfl

theorem setAttn : ∀ tag enable, Statement (.setAttn tag enable) :=
  fun _ _ h _ hr => allowed (l := ⟨1, 1, false⟩) h hr rfl rfl

theorem setTime : ∀ tag year month day hour minute second hold, Statement (.setTime tag year month day hour minute second hold) :=
  fun _ _ _ _ _ _ _ _ h _ hr => allowed (l := ⟨7, 7, false⟩) h hr rfl rfl

theorem releaseTime : ∀ tag, Statement (.releaseTime tag) :=
  fun _ h _ hr => allowed (l := ⟨0, 0, false⟩) h hr rfl rfl

theorem getTime : ∀ tag, Statement (.getTime tag) :=
  fun _ h _ hr => allowed (l := ⟨0, 0, false⟩) h hr rfl rfl

theorem setSync : ∀ tag enable, Statement (.setSync tag enable) :=
  fun _ _ h _ hr => allowed (l := ⟨1, 1, false⟩) h hr rfl rfl

theorem setGlass : ∀ tag duty rate, Statement (.setGlass tag duty rate) :=
  fun _ _ _ h _ hr => allowed (l := ⟨2, 2, false⟩) h hr rfl rfl

theorem setDisplay : ∀ tag mode invert contrast rowMask, Statement (.setDisplay tag mode invert contrast rowMask) :=
  fun _ _ _ _ _ h _ hr => allowed (l := ⟨4, 4, false⟩) h hr rfl rfl

theorem getDisplay : ∀ tag, Statement (.getDisplay tag) :=
  fun _ h _ hr => allowed (l := ⟨0, 0, false⟩) h hr rfl rfl

theorem setCell : ∀ tag cell refs, Statement (.setCell tag cell refs) :=
  fun _ _ refs h _ hr =>
    have h' := Bool.and_eq_true_iff.mp (h : (tagOk _ && refs.length == 8) = true)
    allowed (l := ⟨17, 17, false⟩) h'.1 hr rfl (by
      have := beq_iff_eq.mp h'.2
      simp [LengthRule.allows, pairBytes_length, this])

theorem clearCell : ∀ tag cell, Statement (.clearCell tag cell) :=
  fun _ _ h _ hr => allowed (l := ⟨1, 1, false⟩) h hr rfl rfl

theorem getCell : ∀ tag cell, Statement (.getCell tag cell) :=
  fun _ _ h _ hr => allowed (l := ⟨1, 1, false⟩) h hr rfl rfl

theorem setValue : ∀ tag register value, Statement (.setValue tag register value) :=
  fun _ _ _ h _ hr => allowed (l := ⟨5, 5, false⟩) h hr rfl rfl

theorem addValue : ∀ tag register delta, Statement (.addValue tag register delta) :=
  fun _ _ _ h _ hr => allowed (l := ⟨5, 5, false⟩) h hr rfl rfl

theorem getValue : ∀ tag register, Statement (.getValue tag register) :=
  fun _ _ h _ hr => allowed (l := ⟨1, 1, false⟩) h hr rfl rfl

theorem openDraft : ∀ tag page base, Statement (.openDraft tag page base) :=
  fun _ _ _ h _ hr => allowed (l := ⟨2, 2, false⟩) h hr rfl rfl

theorem writeDots : ∀ tag draft offset bytes, Statement (.writeDots tag draft offset bytes) :=
  fun _ _ _ bytes h _ hr =>
    have h' := Bool.and_eq_true_iff.mp
      (h : ((tagOk _ && decide (1 ≤ bytes.length)) && decide (bytes.length ≤ 48)) = true)
    have h'' := Bool.and_eq_true_iff.mp h'.1
    allowed (l := ⟨3, 50, false⟩) h''.1 hr rfl (allows_of_bounds (Nat.add_le_add_right (of_decide_eq_true h''.2) 2)
      (Nat.add_le_add_right (of_decide_eq_true h'.2) 2))

theorem writeBlink : ∀ tag draft offset bytes, Statement (.writeBlink tag draft offset bytes) :=
  fun _ _ _ bytes h _ hr =>
    have h' := Bool.and_eq_true_iff.mp (h : (tagOk _ && decide (bytes.length ≤ 48)) = true)
    allowed (l := ⟨2, 50, false⟩) h'.1 hr rfl (allows_of_bounds (Nat.le_add_left 2 _)
      (Nat.add_le_add_right (of_decide_eq_true h'.2) 2))

theorem bindField : ∀ tag draft index source register first count options, Statement (.bindField tag draft index source register first count options) :=
  fun _ _ _ _ _ _ _ _ h _ hr => allowed (l := ⟨7, 7, false⟩) h hr rfl rfl

theorem unbindField : ∀ tag draft index, Statement (.unbindField tag draft index) :=
  fun _ _ _ h _ hr => allowed (l := ⟨2, 2, false⟩) h hr rfl rfl

theorem commit : ∀ tag draft, Statement (.commit tag draft) :=
  fun _ _ h _ hr => allowed (l := ⟨1, 1, false⟩) h hr rfl rfl

theorem abandon : ∀ tag draft, Statement (.abandon tag draft) :=
  fun _ _ h _ hr => allowed (l := ⟨1, 1, false⟩) h hr rfl rfl

theorem deletePage : ∀ tag page, Statement (.deletePage tag page) :=
  fun _ _ h _ hr => allowed (l := ⟨1, 1, false⟩) h hr rfl rfl

theorem listPages : ∀ tag, Statement (.listPages tag) :=
  fun _ h _ hr => allowed (l := ⟨0, 0, false⟩) h hr rfl rfl

theorem readPage : ∀ tag page part offset, Statement (.readPage tag page part offset) :=
  fun _ _ _ _ h _ hr => allowed (l := ⟨3, 3, false⟩) h hr rfl rfl

theorem setList : ∀ tag list wrap steps, Statement (.setList tag list wrap steps) :=
  fun _ _ _ steps h _ hr =>
    have h' := Bool.and_eq_true_iff.mp (h : (tagOk _ && decide (steps.length ≤ 16)) = true)
    allowed (l := ⟨2, 34, true⟩) h'.1 hr rfl (by
      have := of_decide_eq_true h'.2
      simp [LengthRule.allows, pairBytes_length]
      omega)

theorem getList : ∀ tag list, Statement (.getList tag list) :=
  fun _ _ h _ hr => allowed (l := ⟨1, 1, false⟩) h hr rfl rfl

theorem selectList : ∀ tag list, Statement (.selectList tag list) :=
  fun _ _ h _ hr => allowed (l := ⟨1, 1, false⟩) h hr rfl rfl

theorem pauseRotation : ∀ tag, Statement (.pauseRotation tag) :=
  fun _ h _ hr => allowed (l := ⟨0, 0, false⟩) h hr rfl rfl

theorem resumeRotation : ∀ tag, Statement (.resumeRotation tag) :=
  fun _ h _ hr => allowed (l := ⟨0, 0, false⟩) h hr rfl rfl

theorem showNow : ∀ tag page priority duration, Statement (.showNow tag page priority duration) :=
  fun _ _ _ _ h _ hr => allowed (l := ⟨4, 4, false⟩) h hr rfl rfl

theorem clearOverride : ∀ tag page, Statement (.clearOverride tag page) :=
  fun _ _ h _ hr => allowed (l := ⟨1, 1, false⟩) h hr rfl rfl

theorem clearBelow : ∀ tag priority, Statement (.clearBelow tag priority) :=
  fun _ _ h _ hr => allowed (l := ⟨1, 1, false⟩) h hr rfl rfl

theorem listOverrides : ∀ tag, Statement (.listOverrides tag) :=
  fun _ h _ hr => allowed (l := ⟨0, 0, false⟩) h hr rfl rfl

theorem setEntry : ∀ tag slot minute hour day weekdays month flags action arg1 arg2 duration, Statement (.setEntry tag slot minute hour day weekdays month flags action arg1 arg2 duration) :=
  fun _ _ _ _ _ _ _ _ _ _ _ _ h _ hr => allowed (l := ⟨12, 12, false⟩) h hr rfl rfl

theorem clearEntry : ∀ tag slot, Statement (.clearEntry tag slot) :=
  fun _ _ h _ hr => allowed (l := ⟨1, 1, false⟩) h hr rfl rfl

theorem armEntry : ∀ tag slot, Statement (.armEntry tag slot) :=
  fun _ _ h _ hr => allowed (l := ⟨1, 1, false⟩) h hr rfl rfl

theorem disarmEntry : ∀ tag slot, Statement (.disarmEntry tag slot) :=
  fun _ _ h _ hr => allowed (l := ⟨1, 1, false⟩) h hr rfl rfl

theorem getEntry : ∀ tag slot, Statement (.getEntry tag slot) :=
  fun _ _ h _ hr => allowed (l := ⟨1, 1, false⟩) h hr rfl rfl

theorem save : ∀ tag, Statement (.save tag) :=
  fun _ h _ hr => allowed (l := ⟨0, 0, false⟩) h hr rfl rfl

theorem restore : ∀ tag, Statement (.restore tag) :=
  fun _ h _ hr => allowed (l := ⟨0, 0, false⟩) h hr rfl rfl

theorem archiveInfo : ∀ tag, Statement (.archiveInfo tag) :=
  fun _ h _ hr => allowed (l := ⟨0, 0, false⟩) h hr rfl rfl

theorem setStartup : ∀ tag list mode contrast mask attn, Statement (.setStartup tag list mode contrast mask attn) :=
  fun _ _ _ _ _ _ h _ hr => allowed (l := ⟨6, 6, false⟩) h hr rfl rfl

theorem byteReceived : ∀ byte stopBit, Statement (.byteReceived byte stopBit) := fun _ _ _ _ hr => nomatch hr

theorem gapTimerExpiry : Statement .gapTimerExpiry := fun _ _ hr => nomatch hr

theorem requestHandoff : Statement .requestHandoff := fun _ _ hr => nomatch hr

theorem replyTransmitted : Statement .replyTransmitted := fun _ _ hr => nomatch hr

theorem warmStartByRestart : Statement .warmStartByRestart := fun _ _ hr => nomatch hr

theorem powerOn : ∀ baudHigh resetnHigh, Statement (.powerOn baudHigh resetnHigh) := fun _ _ _ _ hr => nomatch hr

theorem resetnFall : Statement .resetnFall := fun _ _ hr => nomatch hr

theorem resetnRelease : Statement .resetnRelease := fun _ _ hr => nomatch hr

theorem startupComplete : Statement .startupComplete := fun _ _ hr => nomatch hr

theorem syncFallingEdge : Statement .syncFallingEdge := fun _ _ hr => nomatch hr

theorem crystalStopped : Statement .crystalStopped := fun _ _ hr => nomatch hr

theorem crystalResumed : Statement .crystalResumed := fun _ _ hr => nomatch hr

theorem secondTick : Statement .secondTick := fun _ _ hr => nomatch hr

theorem halfSecondTick : ∀ whole, Statement (.halfSecondTick whole) := fun _ _ _ hr => nomatch hr

theorem calendarSecondCount : Statement .calendarSecondCount := fun _ _ hr => nomatch hr

theorem minuteStart : Statement .minuteStart := fun _ _ hr => nomatch hr

theorem scheduleShow : ∀ slot page priority duration, Statement (.scheduleShow slot page priority duration) := fun _ _ _ _ _ _ hr => nomatch hr

theorem scheduleSelect : ∀ list, Statement (.scheduleSelect list) := fun _ _ _ hr => nomatch hr

theorem scheduleClearBelow : ∀ priority, Statement (.scheduleClearBelow priority) := fun _ _ _ hr => nomatch hr

theorem scheduleDisplay : ∀ mode, Statement (.scheduleDisplay mode) := fun _ _ _ hr => nomatch hr

theorem dwellCount : Statement .dwellCount := fun _ _ hr => nomatch hr

theorem rotationAdvance : Statement .rotationAdvance := fun _ _ hr => nomatch hr

theorem overrideCountdown : Statement .overrideCountdown := fun _ _ hr => nomatch hr

theorem overrideExpiry : Statement .overrideExpiry := fun _ _ hr => nomatch hr

theorem draftIdleCount : Statement .draftIdleCount := fun _ _ hr => nomatch hr

theorem draftExpiry : Statement .draftExpiry := fun _ _ hr => nomatch hr

theorem holdTimerCount : Statement .holdTimerCount := fun _ _ hr => nomatch hr

theorem holdExpiry : Statement .holdExpiry := fun _ _ hr => nomatch hr

theorem frameBoundary : Statement .frameBoundary := fun _ _ hr => nomatch hr

theorem saveEnd : ∀ verified, Statement (.saveEnd verified) := fun _ _ _ hr => nomatch hr

theorem restoreComplete : Statement .restoreComplete := fun _ _ hr => nomatch hr

theorem bankDamaged : ∀ bank sequence, Statement (.bankDamaged bank sequence) := fun _ _ _ _ hr => nomatch hr

end Sys2Proof.Laws.WireLength
end

