-- ==== Sys2Proof/Laws/Store.lean ====
section
/-! SUPPORT. What the shared operations over the page store and the frame boundary change, and what they leave: for each operation the
blocks it touches, once, and from it the fields it leaves unchanged. -/

namespace Sys2Proof.Machine

open Sys2Proof

/-- A draft's idle count changes the page store and the report queue (R9). -/
theorem State.countDraft_leaves (s : State) (d : Fin 2) :
    (s.countDraft d).phase = s.phase ∧ (s.countDraft d).cells = s.cells ∧ (s.countDraft d).frame = s.frame ∧
    (s.countDraft d).rotation = s.rotation ∧ (s.countDraft d).stack = s.stack ∧
    (s.countDraft d).calendar = s.calendar ∧ (s.countDraft d).schedule = s.schedule ∧
    (s.countDraft d).archive = s.archive ∧ (s.countDraft d).link = s.link ∧ (s.countDraft d).owed = s.owed ∧
    (s.countDraft d).pending = s.pending := by
  unfold State.countDraft
  repeat' split
  all_goals simp

@[simp] theorem State.countDraft_phase (s : State) (d : Fin 2) : (s.countDraft d).phase = s.phase :=
  (State.countDraft_leaves s d).1
@[simp] theorem State.countDraft_cells (s : State) (d : Fin 2) : (s.countDraft d).cells = s.cells :=
  (State.countDraft_leaves s d).2.1
@[simp] theorem State.countDraft_frame (s : State) (d : Fin 2) : (s.countDraft d).frame = s.frame :=
  (State.countDraft_leaves s d).2.2.1
@[simp] theorem State.countDraft_rotation (s : State) (d : Fin 2) : (s.countDraft d).rotation = s.rotation :=
  (State.countDraft_leaves s d).2.2.2.1
@[simp] theorem State.countDraft_stack (s : State) (d : Fin 2) : (s.countDraft d).stack = s.stack :=
  (State.countDraft_leaves s d).2.2.2.2.1
@[simp] theorem State.countDraft_calendar (s : State) (d : Fin 2) : (s.countDraft d).calendar = s.calendar :=
  (State.countDraft_leaves s d).2.2.2.2.2.1
@[simp] theorem State.countDraft_schedule (s : State) (d : Fin 2) : (s.countDraft d).schedule = s.schedule :=
  (State.countDraft_leaves s d).2.2.2.2.2.2.1
@[simp] theorem State.countDraft_archive (s : State) (d : Fin 2) : (s.countDraft d).archive = s.archive :=
  (State.countDraft_leaves s d).2.2.2.2.2.2.2.1
@[simp] theorem State.countDraft_link (s : State) (d : Fin 2) : (s.countDraft d).link = s.link :=
  (State.countDraft_leaves s d).2.2.2.2.2.2.2.2.1
@[simp] theorem State.countDraft_owed (s : State) (d : Fin 2) : (s.countDraft d).owed = s.owed :=
  (State.countDraft_leaves s d).2.2.2.2.2.2.2.2.2.1
@[simp] theorem State.countDraft_pending (s : State) (d : Fin 2) : (s.countDraft d).pending = s.pending :=
  (State.countDraft_leaves s d).2.2.2.2.2.2.2.2.2.2

/-- The page store's second tick changes the page store and the report queue (R9). -/
theorem State.countDrafts_leaves (s : State) :
    s.countDrafts.phase = s.phase ∧ s.countDrafts.cells = s.cells ∧ s.countDrafts.frame = s.frame ∧
    s.countDrafts.rotation = s.rotation ∧ s.countDrafts.stack = s.stack ∧ s.countDrafts.calendar = s.calendar ∧
    s.countDrafts.schedule = s.schedule ∧ s.countDrafts.archive = s.archive ∧ s.countDrafts.link = s.link ∧
    s.countDrafts.owed = s.owed ∧ s.countDrafts.pending = s.pending := by
  simp [State.countDrafts]

@[simp] theorem State.countDrafts_phase (s : State) : s.countDrafts.phase = s.phase := (State.countDrafts_leaves s).1
@[simp] theorem State.countDrafts_cells (s : State) : s.countDrafts.cells = s.cells := (State.countDrafts_leaves s).2.1
@[simp] theorem State.countDrafts_frame (s : State) : s.countDrafts.frame = s.frame :=
  (State.countDrafts_leaves s).2.2.1
@[simp] theorem State.countDrafts_rotation (s : State) : s.countDrafts.rotation = s.rotation :=
  (State.countDrafts_leaves s).2.2.2.1
@[simp] theorem State.countDrafts_stack (s : State) : s.countDrafts.stack = s.stack :=
  (State.countDrafts_leaves s).2.2.2.2.1
@[simp] theorem State.countDrafts_calendar (s : State) : s.countDrafts.calendar = s.calendar :=
  (State.countDrafts_leaves s).2.2.2.2.2.1
@[simp] theorem State.countDrafts_schedule (s : State) : s.countDrafts.schedule = s.schedule :=
  (State.countDrafts_leaves s).2.2.2.2.2.2.1
@[simp] theorem State.countDrafts_archive (s : State) : s.countDrafts.archive = s.archive :=
  (State.countDrafts_leaves s).2.2.2.2.2.2.2.1
@[simp] theorem State.countDrafts_link (s : State) : s.countDrafts.link = s.link :=
  (State.countDrafts_leaves s).2.2.2.2.2.2.2.2.1
@[simp] theorem State.countDrafts_owed (s : State) : s.countDrafts.owed = s.owed :=
  (State.countDrafts_leaves s).2.2.2.2.2.2.2.2.2.1
@[simp] theorem State.countDrafts_pending (s : State) : s.countDrafts.pending = s.pending :=
  (State.countDrafts_leaves s).2.2.2.2.2.2.2.2.2.2

/-- A removed page changes the store, the dirty flag, the rotation, the stack and the report queue (R19). -/
theorem State.removePage_leaves (s : State) (id : Nat) :
    (s.removePage id).phase = s.phase ∧ (s.removePage id).cells = s.cells ∧ (s.removePage id).frame = s.frame ∧
    (s.removePage id).calendar = s.calendar ∧ (s.removePage id).schedule = s.schedule ∧
    (s.removePage id).link = s.link ∧ (s.removePage id).owed = s.owed ∧ (s.removePage id).pending = s.pending := by
  simp [State.removePage, State.markDirty]

@[simp] theorem State.removePage_phase (s : State) (id : Nat) : (s.removePage id).phase = s.phase :=
  (State.removePage_leaves s id).1
@[simp] theorem State.removePage_cells (s : State) (id : Nat) : (s.removePage id).cells = s.cells :=
  (State.removePage_leaves s id).2.1
@[simp] theorem State.removePage_frame (s : State) (id : Nat) : (s.removePage id).frame = s.frame :=
  (State.removePage_leaves s id).2.2.1
@[simp] theorem State.removePage_calendar (s : State) (id : Nat) : (s.removePage id).calendar = s.calendar :=
  (State.removePage_leaves s id).2.2.2.1
@[simp] theorem State.removePage_schedule (s : State) (id : Nat) : (s.removePage id).schedule = s.schedule :=
  (State.removePage_leaves s id).2.2.2.2.1
@[simp] theorem State.removePage_link (s : State) (id : Nat) : (s.removePage id).link = s.link :=
  (State.removePage_leaves s id).2.2.2.2.2.1
@[simp] theorem State.removePage_owed (s : State) (id : Nat) : (s.removePage id).owed = s.owed :=
  (State.removePage_leaves s id).2.2.2.2.2.2.1
@[simp] theorem State.removePage_pending (s : State) (id : Nat) : (s.removePage id).pending = s.pending :=
  (State.removePage_leaves s id).2.2.2.2.2.2.2

/-- A completed commit changes the store, the dirty flag, the reply queue, and by its notice the rotation, the stack and the
report queue (R14). -/
theorem State.completeCommit_leaves (s : State) (e : PendingCommit) :
    (s.completeCommit e).phase = s.phase ∧ (s.completeCommit e).cells = s.cells ∧
    (s.completeCommit e).frame = s.frame ∧ (s.completeCommit e).calendar = s.calendar ∧
    (s.completeCommit e).schedule = s.schedule ∧ (s.completeCommit e).owed = s.owed ∧
    (s.completeCommit e).pending = s.pending := by
  unfold State.completeCommit State.markDirty
  simp only
  repeat' split
  all_goals simp

@[simp] theorem State.completeCommit_phase (s : State) (e : PendingCommit) : (s.completeCommit e).phase = s.phase :=
  (State.completeCommit_leaves s e).1
@[simp] theorem State.completeCommit_cells (s : State) (e : PendingCommit) : (s.completeCommit e).cells = s.cells :=
  (State.completeCommit_leaves s e).2.1
@[simp] theorem State.completeCommit_frame (s : State) (e : PendingCommit) : (s.completeCommit e).frame = s.frame :=
  (State.completeCommit_leaves s e).2.2.1
@[simp] theorem State.completeCommit_calendar (s : State) (e : PendingCommit) : (s.completeCommit e).calendar = s.calendar :=
  (State.completeCommit_leaves s e).2.2.2.1
@[simp] theorem State.completeCommit_schedule (s : State) (e : PendingCommit) : (s.completeCommit e).schedule = s.schedule :=
  (State.completeCommit_leaves s e).2.2.2.2.1
@[simp] theorem State.completeCommit_owed (s : State) (e : PendingCommit) : (s.completeCommit e).owed = s.owed :=
  (State.completeCommit_leaves s e).2.2.2.2.2.1
@[simp] theorem State.completeCommit_pending (s : State) (e : PendingCommit) : (s.completeCommit e).pending = s.pending :=
  (State.completeCommit_leaves s e).2.2.2.2.2.2

/-- Overflow reports change the report queue alone (R37). -/
theorem State.offerOverflows_leaves (s : State) (page : Nat) (indices : List (Fin 4)) :
    (s.offerOverflows page indices).phase = s.phase ∧ (s.offerOverflows page indices).store = s.store ∧
    (s.offerOverflows page indices).cells = s.cells ∧ (s.offerOverflows page indices).frame = s.frame ∧
    (s.offerOverflows page indices).rotation = s.rotation ∧ (s.offerOverflows page indices).stack = s.stack ∧
    (s.offerOverflows page indices).calendar = s.calendar ∧ (s.offerOverflows page indices).schedule = s.schedule ∧
    (s.offerOverflows page indices).archive = s.archive ∧ (s.offerOverflows page indices).link = s.link ∧
    (s.offerOverflows page indices).owed = s.owed ∧ (s.offerOverflows page indices).pending = s.pending := by
  induction indices generalizing s with
  | nil => simp [State.offerOverflows]
  | cons i rest ih => simpa [State.offerOverflows] using ih (s.offer .fieldOverflow page i.val)

@[simp] theorem State.offerOverflows_phase (s : State) (page : Nat) (indices : List (Fin 4)) : (s.offerOverflows page indices).phase = s.phase :=
  (State.offerOverflows_leaves s page indices).1
@[simp] theorem State.offerOverflows_store (s : State) (page : Nat) (indices : List (Fin 4)) : (s.offerOverflows page indices).store = s.store :=
  (State.offerOverflows_leaves s page indices).2.1
@[simp] theorem State.offerOverflows_cells (s : State) (page : Nat) (indices : List (Fin 4)) : (s.offerOverflows page indices).cells = s.cells :=
  (State.offerOverflows_leaves s page indices).2.2.1
@[simp] theorem State.offerOverflows_frame (s : State) (page : Nat) (indices : List (Fin 4)) : (s.offerOverflows page indices).frame = s.frame :=
  (State.offerOverflows_leaves s page indices).2.2.2.1
@[simp] theorem State.offerOverflows_rotation (s : State) (page : Nat) (indices : List (Fin 4)) : (s.offerOverflows page indices).rotation = s.rotation :=
  (State.offerOverflows_leaves s page indices).2.2.2.2.1
@[simp] theorem State.offerOverflows_stack (s : State) (page : Nat) (indices : List (Fin 4)) : (s.offerOverflows page indices).stack = s.stack :=
  (State.offerOverflows_leaves s page indices).2.2.2.2.2.1
@[simp] theorem State.offerOverflows_calendar (s : State) (page : Nat) (indices : List (Fin 4)) : (s.offerOverflows page indices).calendar = s.calendar :=
  (State.offerOverflows_leaves s page indices).2.2.2.2.2.2.1
@[simp] theorem State.offerOverflows_schedule (s : State) (page : Nat) (indices : List (Fin 4)) : (s.offerOverflows page indices).schedule = s.schedule :=
  (State.offerOverflows_leaves s page indices).2.2.2.2.2.2.2.1
@[simp] theorem State.offerOverflows_archive (s : State) (page : Nat) (indices : List (Fin 4)) : (s.offerOverflows page indices).archive = s.archive :=
  (State.offerOverflows_leaves s page indices).2.2.2.2.2.2.2.2.1
@[simp] theorem State.offerOverflows_link (s : State) (page : Nat) (indices : List (Fin 4)) : (s.offerOverflows page indices).link = s.link :=
  (State.offerOverflows_leaves s page indices).2.2.2.2.2.2.2.2.2.1
@[simp] theorem State.offerOverflows_owed (s : State) (page : Nat) (indices : List (Fin 4)) : (s.offerOverflows page indices).owed = s.owed :=
  (State.offerOverflows_leaves s page indices).2.2.2.2.2.2.2.2.2.2.1
@[simp] theorem State.offerOverflows_pending (s : State) (page : Nat) (indices : List (Fin 4)) : (s.offerOverflows page indices).pending = s.pending :=
  (State.offerOverflows_leaves s page indices).2.2.2.2.2.2.2.2.2.2.2

/-- A boundary's latch, rendering and composition change the frame engine, overflow latches and the report queue (R37, R50). -/
theorem State.latchFrame_leaves (s : State) :
    s.latchFrame.phase = s.phase ∧ s.latchFrame.cells = s.cells ∧ s.latchFrame.rotation = s.rotation ∧
    s.latchFrame.stack = s.stack ∧ s.latchFrame.calendar = s.calendar ∧ s.latchFrame.schedule = s.schedule ∧
    s.latchFrame.archive = s.archive ∧ s.latchFrame.link = s.link ∧ s.latchFrame.owed = s.owed ∧
    s.latchFrame.pending = s.pending := by
  unfold State.latchFrame State.updateLatches
  simp only
  split
  all_goals simp

@[simp] theorem State.latchFrame_phase (s : State) : s.latchFrame.phase = s.phase := (State.latchFrame_leaves s).1
@[simp] theorem State.latchFrame_cells (s : State) : s.latchFrame.cells = s.cells := (State.latchFrame_leaves s).2.1
@[simp] theorem State.latchFrame_rotation (s : State) : s.latchFrame.rotation = s.rotation :=
  (State.latchFrame_leaves s).2.2.1
@[simp] theorem State.latchFrame_stack (s : State) : s.latchFrame.stack = s.stack := (State.latchFrame_leaves s).2.2.2.1
@[simp] theorem State.latchFrame_calendar (s : State) : s.latchFrame.calendar = s.calendar :=
  (State.latchFrame_leaves s).2.2.2.2.1
@[simp] theorem State.latchFrame_schedule (s : State) : s.latchFrame.schedule = s.schedule :=
  (State.latchFrame_leaves s).2.2.2.2.2.1
@[simp] theorem State.latchFrame_archive (s : State) : s.latchFrame.archive = s.archive :=
  (State.latchFrame_leaves s).2.2.2.2.2.2.1
@[simp] theorem State.latchFrame_link (s : State) : s.latchFrame.link = s.link :=
  (State.latchFrame_leaves s).2.2.2.2.2.2.2.1
@[simp] theorem State.latchFrame_owed (s : State) : s.latchFrame.owed = s.owed :=
  (State.latchFrame_leaves s).2.2.2.2.2.2.2.2.1
@[simp] theorem State.latchFrame_pending (s : State) : s.latchFrame.pending = s.pending :=
  (State.latchFrame_leaves s).2.2.2.2.2.2.2.2.2

/-! ### What a written page record becomes -/

/-- The records after a page is written: the page itself, and every earlier record of another id in an ascending store. -/
theorem mem_putPage {p q : Page} {pages : List Page} (h : q ∈ putPage p pages) : q = p ∨ q ∈ pages := by
  induction pages with
  | nil => simpa [putPage] using h
  | cons r rest ih =>
    unfold putPage at h
    split at h
    · simpa using h
    · split at h
      · rcases List.mem_cons.mp h with h | h
        · exact .inl h
        · exact .inr (List.mem_cons_of_mem _ h)
      · rcases List.mem_cons.mp h with h | h
        · exact .inr (h ▸ List.mem_cons_self)
        · rcases ih h with h | h
          · exact .inl h
          · exact .inr (List.mem_cons_of_mem _ h)

/-- The written page stands in the store. -/
theorem putPage_mem (p : Page) (pages : List Page) : p ∈ putPage p pages := by
  induction pages with
  | nil => simp [putPage]
  | cons r rest ih =>
    unfold putPage
    split
    · simp
    · split
      · simp
      · exact List.mem_cons_of_mem _ ih

/-- Writing a page keeps the store in ascending id without repeats (R2). -/
theorem putPage_sorted {p : Page} {pages : List Page} (h : pages.Pairwise (·.id < ·.id)) :
    (putPage p pages).Pairwise (·.id < ·.id) := by
  induction pages with
  | nil => simp [putPage]
  | cons r rest ih =>
    have hr := List.pairwise_cons.mp h
    unfold putPage
    split
    · rename_i hlt
      refine List.pairwise_cons.mpr ⟨?_, h⟩
      intro q hq
      rcases List.mem_cons.mp hq with rfl | hq
      · exact hlt
      · exact Nat.lt_trans hlt (hr.1 q hq)
    · split
      · rename_i heq
        exact List.pairwise_cons.mpr ⟨fun q hq => heq ▸ hr.1 q hq, hr.2⟩
      · refine List.pairwise_cons.mpr ⟨?_, ih hr.2⟩
        intro q hq
        rcases mem_putPage hq with rfl | hq
        · omega
        · exact hr.1 q hq

end Sys2Proof.Machine
end

