-- ==== Sys2Proof/Laws/WalkApart.lean ====
section
/-! SUPPORT. The actions of a firing neither read nor write the firings that are left of the walk, so a walk completed is the fold
of its firings, each on what the earlier ones have left (R119). -/

namespace Sys2Proof.Machine

open Sys2Proof

/-- The firings left of the walk become `w`. -/
def State.withWalk (s : State) (w : List Firing) : State := s.setSchedule { s.schedule with walk := w }

theorem State.offer_withWalk (s : State) (w : List Firing) (k : Kind) (subject detail : Nat) :
    (s.withWalk w).offer k subject detail = (s.offer k subject detail).withWalk w := rfl

theorem State.recompute_withWalk (s : State) (w : List Firing) : (s.withWalk w).recompute = s.recompute.withWalk w :=
  ite_apart (fun t : State => t.withWalk w) rfl rfl

theorem State.reseat_withWalk (s : State) (w : List Firing) (list : Fin 4) :
    (s.withWalk w).reseat list = (s.reseat list).withWalk w := by
  have e : (s.withWalk w).firstStep s.rotation.lists[list].steps = s.firstStep s.rotation.lists[list].steps := rfl
  have e2 : (s.withWalk w).rotation = s.rotation := rfl
  simp only [State.reseat, e2, e]
  cases s.firstStep s.rotation.lists[list].steps with
  | some j => rfl
  | none => exact ite_apart (fun t : State => t.withWalk w) rfl rfl

theorem State.offerEnded_withWalk (s : State) (w : List Firing) (detail : Nat) (gone : List Override) :
    (s.withWalk w).offerEnded detail gone = (s.offerEnded detail gone).withWalk w := by
  induction gone generalizing s with
  | nil => rfl
  | cons o rest ih => rw [State.offerEnded, State.offer_withWalk, ih]; rfl

theorem State.admitRecord_withWalk (s : State) (w : List Firing) (new : Override) :
    (s.withWalk w).admitRecord new = ((s.admitRecord new).1, (s.admitRecord new).2.withWalk w) := by
  let f : Admission × State → Admission × State := fun p => (p.1, p.2.withWalk w)
  have e : (s.withWalk w).stack = s.stack := rfl
  simp only [State.admitRecord, e]
  refine ite_apart f rfl (ite_apart f rfl (ite_apart f ?_ rfl))
  cases s.stack.records.find? (·.priority == lowestPriority s.stack.records) <;> rfl

theorem State.takeShow_withWalk (s : State) (w : List Firing) (slot page priority duration : Nat) :
    (s.withWalk w).takeShow slot page priority duration = (s.takeShow slot page priority duration).withWalk w := by
  simp only [State.takeShow, State.admitRecord_withWalk, State.offer_withWalk]
  refine ite_apart (fun t : State => t.withWalk w) ?_ rfl
  rcases s.admitRecord ⟨.schedule slot, page, priority, readDuration duration⟩ with ⟨a, t⟩
  cases a <;> first | exact State.recompute_withWalk t w | rfl

theorem State.handAction_withWalk (s : State) (w : List Firing) (slot : Nat) (a : Action) :
    (s.withWalk w).handAction slot a = (s.handAction slot a).withWalk w := by
  cases a with
  | showPage page priority duration => exact State.takeShow_withWalk ..
  | selectList list =>
    simp only [State.handAction, State.reseatAndOffer, State.reseat_withWalk, State.recompute_withWalk]
  | clearBelow priority =>
    exact (congrArg State.recompute (State.offerEnded_withWalk
      (s.setStack { s.stack with records := s.stack.records.filter fun o => !decide (o.priority ≤ priority) }) w 2
      (s.stack.records.filter fun o => decide (o.priority ≤ priority)))).trans (State.recompute_withWalk _ w)
  | display mode => rfl

theorem State.noteFiring_withWalk (s : State) (w : List Firing) (f : Firing) :
    (s.withWalk w).noteFiring f = (s.noteFiring f).withWalk w := by
  unfold State.noteFiring
  cases f.entry.report <;> cases f.entry.once <;> rfl

theorem State.fire_withWalk (s : State) (w : List Firing) (f : Firing) : (s.withWalk w).fire f = (s.fire f).withWalk w := by
  simp only [State.fire, State.handAction_withWalk, State.noteFiring_withWalk]

/-- The firings of a walk, one after another on what the earlier ones have left (R119). -/
theorem State.fireMany_eq_foldl (s : State) (w : List Firing) (h : s.schedule.walk = w) :
    s.fireMany w.length = w.foldl State.fire (s.withWalk []) := by
  induction w generalizing s with
  | nil => rw [List.foldl_nil, List.length_nil, State.fireMany, State.withWalk, ← h]; rfl
  | cons f rest ih =>
    have e : s.fireNext = (s.fire f).withWalk rest := by
      rw [← State.fire_withWalk]; unfold State.fireNext; rw [h]; rfl
    rw [List.length_cons, State.fireMany, e, ih _ rfl, List.foldl_cons, State.fire_withWalk]
    rfl

/-- A minute start taken of a RUNNING calendar, with no walk unfinished, is the fold of its firings (R119). -/
theorem State.takeMinute_eq_foldl {s : State} {m : MinuteStart} {rest : List MinuteStart}
    (hr : s.calendar.state = .running) (hw : s.schedule.walk = []) (hm : s.schedule.minuteStarts = m :: rest) :
    s.takeMinute =
      (s.schedule.firings m).foldl State.fire (s.setSchedule { s.schedule with minuteStarts := rest }) := by
  have hb : s.beginWalk = s.setSchedule { s.schedule with minuteStarts := rest, walk := s.schedule.firings m } := by
    unfold State.beginWalk
    rw [hw, hm]
  have hsc : ∀ (sc : Schedule) (w : List Firing), sc.walk = [] →
      { { sc with minuteStarts := rest, walk := w } with walk := [] } = { sc with minuteStarts := rest } := by
    rintro ⟨_, _, _⟩ w h
    cases h
    rfl
  rw [State.takeMinute, State.finishWalk, hb, State.setSchedule_calendar, if_pos hr]
  refine (State.fireMany_eq_foldl _ (s.schedule.firings m) rfl).trans ?_
  exact congrArg (fun t => List.foldl State.fire t (s.schedule.firings m)) (congrArg s.setSchedule (hsc s.schedule _ hw))

end Sys2Proof.Machine
end

