-- ==== Sys2Proof/Tests/Slice0.lean ====
section
/-! SUPPORT. Tests of the model: ill-formed commands, single steps whose expected results stand in the manual's tables and
worked sessions, and a witness for the hypotheses of every statement. -/

namespace Sys2Proof.Tests

open Sys2Proof Sys2Proof.Machine

/-! ## States the tests start from -/

/-- The state after one command. -/
def after (c : Instr) (s : State) : State :=
  match exec c s with
  | .next t => t
  | _ => s

/-- A link that has handed this request to its owner. -/
def given (c : Instr) (s : State) : State :=
  s.setLink { s.link with handed := c.toRequest, unanswered := c.toRequest.toList.map Request.tag }

/-- The state after a request that the link has handed over. -/
def answer (c : Instr) (s : State) : State := after c (given c s)

/-- The reply queue: result and payload. -/
def replies (s : State) : List (Result × List Byte) := s.link.replies.map fun r => (r.result, r.payload)

/-- The report queue without repeat counts and stamps. -/
def queued (s : State) : List (Kind × Nat × Nat) := s.reports.records.map fun r => (r.kind, r.subject, r.detail)

/-- A blank page of version 3. -/
def blankPage (id : Nat) : Page := ⟨id, 3, Vector.replicate 48 0, none, Vector.replicate 4 none, Vector.replicate 4 false⟩

/-- A blank draft. -/
def blankDraft (id : Nat) : DraftBody := ⟨id, Vector.replicate 48 0, none, Vector.replicate 4 none⟩

/-- The reset state with an empty report queue. -/
def quiet : State := State.reset.setReports { State.reset.reports with records := [], attnLow := false }

/-- Pages of these ids stand in the store. -/
def withPages (ids : List Nat) (s : State) : State := s.setStore { s.store with pages := ids.map blankPage }

/-- The two drafts stand so. -/
def withDrafts (x y : Draft) (s : State) : State := s.setStore { s.store with drafts := #v[x, y] }

/-- Draft 1 is COMMITTING for page 9, a new id. -/
def committing (s : State) : State :=
  (withDrafts (.editing (blankDraft 7) 3) (.committing (blankDraft 9)) s).setStore
    { (withDrafts (.editing (blankDraft 7) 3) (.committing (blankDraft 9)) s).store with commits := [⟨1, true, 5⟩] }

/-- A save of these collections into bank B is in progress. -/
def saving (s : State) : State :=
  s.setArchive
    { s.archive with
      bankA := .marked 9 Collections.factory true, recordA := some 9
      op := .save .b 10 Collections.factory 6 }

/-- A restore from bank A is in progress. -/
def restoring (s : State) : State :=
  s.setArchive
    { s.archive with bankA := .marked 9 Collections.factory true, recordA := some 9, op := .restore .a 6 }

/-- The calendar stands so on a running crystal. -/
def withCalendar (state : CalendarState) (f : CalendarFields) (s : State) : State :=
  s.setCalendar { s.calendar with crystal := .running, state := state, fields := f, sync := true }

/-- 2024-02-28 23:59:58, a Wednesday (6.10). -/
def leapEve : CalendarFields := ⟨2024, 2, 28, 23, 59, 58, 2⟩

/-- One second tick is owed to every recipient. -/
def ticked (s : State) : State := s.setOwed ⟨1, 1, 1, 1⟩

/-- The stack of 5.9. -/
def fullStack : List Override :=
  [⟨.host 10, 10, 2, none⟩, ⟨.schedule 4, 11, 2, some 600⟩, ⟨.host 12, 12, 5, some 120⟩,
    ⟨.schedule 9, 13, 3, none⟩, ⟨.host 14, 14, 2, some 30⟩, ⟨.schedule 2, 15, 5, some 45⟩]

/-- The part at the start of 5.9. -/
def crowded : State :=
  (withPages [10, 11, 12, 13, 14, 15, 16, 17, 18] quiet).setStack
    ⟨fullStack, ⟨some 15, .override, some (.schedule 2)⟩⟩

/-- The four steps of list 1 of 4.10. -/
def wrapSteps : List Step := [⟨20, 5⟩, ⟨21, 3⟩, ⟨99, 4⟩, ⟨20, 2⟩]

/-- The rotation of 4.10 on list 1 at a cursor. -/
def rotating (seat : Option Seat) (s : State) : State :=
  (withPages [20, 21] s).setRotation
    { s.rotation with lists := s.rotation.lists.set 1 ⟨wrapSteps, true⟩, active := 1, seat := seat }

/-- An entry for every minute. -/
def everyMinute (once report : Bool) (action : Action) : Entry := ⟨⟨none, none, .any, none⟩, once, report, action⟩

/-- A minute start of 06:00 on a Monday, 16 September. -/
def sixOClock : MinuteStart := ⟨0, 6, 16, 0, 9⟩

/-- 06:00:00 on that day of 2024. -/
def sixFields : CalendarFields := ⟨2024, 9, 16, 6, 0, 0, 0⟩

/-- Slot 4 holds an armed entry and a minute start of the running calendar waits for the schedule. -/
def minuteDue (once report : Bool) (action : Action) (s : State) : State :=
  (withCalendar .running sixFields s).setSchedule
    { s.schedule with
      slots := s.schedule.slots.set 4 (.holds .armed (everyMinute once report action)), minuteStarts := [sixOClock] }

/-- A cell whose segments lie on segment line `s`: a on common 0 to the point on common 7. -/
def cellOn (s : Fin 48) : Cell :=
  #v[some ⟨0, s⟩, some ⟨1, s⟩, some ⟨2, s⟩, some ⟨3, s⟩, some ⟨4, s⟩, some ⟨5, s⟩, some ⟨6, s⟩, some ⟨7, s⟩]

/-- Cells 0 to 3 are defined on segment lines 0 to 3. -/
def withCells (s : State) : State :=
  s.setCells
    { s.cells with
      table := (((s.cells.table.set 0 (some (cellOn 0))).set 1 (some (cellOn 1))).set 2 (some (cellOn 2))).set 3
        (some (cellOn 3)) }

/-- The eight references of a cell on segment line 9, as SET_CELL carries them. -/
def nineRefs : List (Byte × Byte) := [(0, 9), (1, 9), (2, 9), (3, 9), (4, 9), (5, 9), (6, 9), (7, 9)]

/-! ## Ill-formed commands -/

/-- A tag above 15 is refused in every request command (R161 check 1). -/
theorem test_tag_above_15_is_ill_formed :
    [Instr.ping 16 [], .identify 16, .status 16, .restart 16, .fetchReports 16 1, .setReportMask 16 0, .setAttn 16 1,
      .setTime 16 0 1 1 0 0 0 0, .releaseTime 16, .getTime 16, .setSync 16 0, .setGlass 16 8 1, .setDisplay 16 1 0 8 255,
      .getDisplay 16, .setCell 16 0 nineRefs, .clearCell 16 0, .getCell 16 0, .setValue 16 0 0, .addValue 16 0 0,
      .getValue 16 0, .openDraft 16 1 0, .writeDots 16 0 0 [1], .writeBlink 16 0 0 [], .bindField 16 0 0 0 0 0 4 0,
      .unbindField 16 0 0, .commit 16 0, .abandon 16 0, .deletePage 16 1, .listPages 16, .readPage 16 1 0 0,
      .setList 16 0 0 [], .getList 16 0, .selectList 16 0, .pauseRotation 16, .resumeRotation 16, .showNow 16 1 1 0,
      .clearOverride 16 1, .clearBelow 16 1, .listOverrides 16, .setEntry 16 0 0 0 255 0 255 0 2 0 0 0, .clearEntry 16 0,
      .armEntry 16 0, .disarmEntry 16 0, .getEntry 16 0, .save 16, .restore 16, .archiveInfo 16,
      .setStartup 16 0 1 8 0 1].all (fun c => !c.wellFormed) = true := by decide

/-- Payload lengths that the table of request codes does not allow (R161 check 5). -/
theorem test_payload_length_is_ill_formed :
    [Instr.ping 0 (List.replicate 64 0), .setCell 0 0 (nineRefs.take 7), .setCell 0 0 (nineRefs ++ nineRefs), .writeDots 0 0 0 [],
      .writeDots 0 0 0 (List.replicate 49 0), .writeBlink 0 0 0 (List.replicate 49 0),
      .setList 0 0 0 (List.replicate 17 (1, 1))].all (fun c => !c.wellFormed) = true := by decide

/-- Hand-offs whose arguments lie outside the ranges of R111, or name no slot. -/
theorem test_hand_off_out_of_range_is_ill_formed :
    [Instr.scheduleShow 32 1 1 0, .scheduleShow 0 0 1 0, .scheduleShow 0 255 1 0, .scheduleShow 0 1 0 0, .scheduleShow 0 1 8 0,
      .scheduleSelect 4, .scheduleClearBelow 0, .scheduleClearBelow 8, .scheduleDisplay 4].all
      (fun c => !c.wellFormed) = true := by decide

/-- The greatest well-formed operands. -/
theorem test_greatest_operands_are_well_formed :
    [Instr.ping 15 (List.replicate 63 0), .setCell 15 0 nineRefs, .writeDots 0 0 0 (List.replicate 48 0),
      .setList 0 0 0 (List.replicate 16 (1, 1)), .scheduleShow 31 254 7 65535, .scheduleSelect 3, .scheduleClearBelow 7,
      .scheduleDisplay 3].all Instr.wellFormed = true := by decide

/-- No row of the opcode table has bits: no word spells a command, and `withFetchWord` changes nothing. -/
theorem test_no_word_spells_a_command : decodeTableWord 8 0x5A = none ∧ State.reset.withFetchWord 8 0x5A = State.reset :=
  ⟨rfl, rfl⟩

/-! ## The link (10.10, 11.6) -/

/-- The frame of a PING with tag 3 is A5 02 03 01 FA (10.10). -/
theorem test_ping_frame : (Request.mk 3 1 []).frameBytes = [0xA5, 0x02, 0x03, 0x01, 0xFA] := by decide

/-- The bytes of that frame are accepted by the link (10.10). -/
theorem test_ping_frame_is_accepted :
    (quiet.takeBytes [0xA5, 0x02, 0x03, 0x01, 0xFA]).link.inbox = [⟨3, 1, []⟩]
      ∧ (quiet.takeBytes [0xA5, 0x02, 0x03, 0x01, 0xFA]).link.unanswered = [3] := by decide

/-- 71 is no LEN (10.10). -/
theorem test_bad_length_byte :
    queued (after (.byteReceived 0x47 true) (quiet.receive .length)) = [(.linkFault, 3, 0)] := by decide

/-- A STATUS with tag 16 is refused with BAD_FIELD, and one whose bytes sum to 255 is a checksum fault (10.10). -/
theorem test_bad_tag_and_bad_checksum :
    replies (quiet.takeBytes [0xA5, 0x02, 0x10, 0x03, 0xEB]) = [(.badField, [])]
      ∧ queued (quiet.takeBytes [0xA5, 0x02, 0x04, 0x03, 0xF6]) = [(.linkFault, 1, 0)] := by decide

/-- A pause inside a frame discards it (10.10). -/
theorem test_gap_in_a_frame :
    queued (after .gapTimerExpiry (quiet.takeBytes [0xA5, 0x03, 0x05])) = [(.linkFault, 2, 0)]
      ∧ (after .gapTimerExpiry (quiet.takeBytes [0xA5, 0x03, 0x05])).link.receiver = .hunt := by decide

/-- PING returns its bytes (R169). -/
theorem test_ping : replies (answer (.ping 3 [0xA5, 0]) quiet) = [(.ok, [0xA5, 0])] := by decide

/-- IDENTIFY: part code 0x4808, least significant byte first, revision 1, speed 0 and the capacities (R169, 11.3). -/
theorem test_identify :
    replies (answer (.identify 3) quiet)
      = [(.ok, [0x08, 0x48, 1, 0, 24, 2, 16, 8, 4, 16, 6, 32, 16, 16, 4, 8])] := by decide

/-- The reply of a RESTART, sent whole, starts the part (R171). -/
theorem test_restart_reply_starts_the_part :
    (after .warmStartByRestart (after .replyTransmitted (answer (.restart 2) quiet))).phase = .starting .restart := by decide

/-- With four unanswered and no free place a frame is dropped with LINK_FAULT 4 (11.6 step 5). -/
theorem test_congested_link_drops :
    let s := quiet.setLink
      { quiet.link with unanswered := [0, 8, 9, 10], replies := List.replicate 8 ⟨1, .ok, [], false⟩ }
    (queued (s.checkRequest ⟨11, 0x39, [7, 0, 0]⟩), replies (s.checkRequest ⟨11, 0x39, [7, 0, 0]⟩) = replies s)
      = ([(.linkFault, 4, 0)], True) := by
  simp only [Prod.mk.injEq]; decide

/-- A repeated tag is refused with DUP_TAG in a free place (11.6 step 7). -/
theorem test_duplicate_tag :
    replies ((quiet.setLink { quiet.link with unanswered := [0, 9, 10] }).checkRequest ⟨9, 0x39, [7, 0, 0]⟩)
      = [(.dupTag, [])] := by decide

/-! ## Reports (11.4, R147) -/

/-- After a cold start with two unmarked banks FETCH_REPORTS returns STARTED (1, 2) without a stamp (R142, R154, R177). -/
theorem test_fetch_reports :
    replies (answer (.fetchReports 0 8) State.reset) = [(.ok, [1, 0, 1, 1, 2, 1, 0xFF, 0xFF])]
      ∧ (answer (.fetchReports 0 8) State.reset).reports.attnLow = false := by decide

/-- SET_REPORT_MASK returns the mask (11.3). -/
theorem test_set_report_mask :
    replies (answer (.setReportMask 0 0xFFFE) quiet) = [(.ok, [0xFE, 0xFF])] := by decide

/-- SET_ATTN 0 releases ATTN (R153). -/
theorem test_set_attn : (answer (.setAttn 0 0) State.reset).reports.attnLow = false := by decide

/-- A count of 255 stays (R147 row 2). -/
theorem test_count_saturates :
    ((quiet.setReports { quiet.reports with records := [⟨.linkFault, 4, 0, 255, none⟩] }).offer .linkFault 4 0).reports.records
      = [⟨.linkFault, 4, 0, 255, none⟩] := by decide

/-! ## Calendar (6.10, 11.4) -/

/-- SET_TIME (24, 9, 16, 17, 41, 30, hold 0) replies weekday 0 (11.4). -/
theorem test_set_time :
    replies (answer (.setTime 1 24 9 16 17 41 30 0) (withCalendar .invalid CalendarFields.cold quiet)) = [(.ok, [0])] := by decide

/-- 2023 has no 29 February (6.10). -/
theorem test_set_time_leap_day :
    replies (answer (.setTime 1 23 2 29 0 0 0 0) (withCalendar .invalid CalendarFields.cold quiet)) = [(.badField, [])] := by
  decide

/-- The second tick after 23:59:59 on 28 February 2024 leads to 29 February, a Thursday, with its minute start (6.10). -/
theorem test_leap_day_minute_start :
    let s := after .calendarSecondCount (ticked (withCalendar .running { leapEve with second := 59 } quiet))
    s.calendar.fields = ⟨2024, 2, 29, 0, 0, 0, 3⟩ ∧ s.schedule.minuteStarts = [⟨0, 0, 29, 3, 2⟩] := by decide

/-- The second tick after the last second of 2099 (R97). -/
theorem test_calendar_wrap :
    let s := after .calendarSecondCount (ticked (withCalendar .running ⟨2099, 12, 31, 23, 59, 59, 3⟩ quiet))
    s.calendar.fields = ⟨2000, 1, 1, 0, 0, 0, 5⟩ ∧ queued s = [(.calendarWrap, 0, 0)] := by decide

/-- A SYNC edge releases the hold (6.10). -/
theorem test_sync_edge :
    (after .syncFallingEdge (withCalendar (.held 1) leapEve quiet)).calendar.state = .running := by decide

/-- The second tick of a hold without an edge expires it, stamped 23:59, and the fields stand (6.10). -/
theorem test_hold_expires :
    let s := after .holdTimerCount (ticked (withCalendar (.held 1) leapEve quiet))
    s.reports.records = [⟨.holdExpired, 0, 0, 1, some ⟨23, 59⟩⟩] ∧ s.calendar.fields = leapEve := by decide

/-- RELEASE_TIME after the expiry is answered WRONG_STATE (6.10). -/
theorem test_release_time_wrong_state :
    replies (answer (.releaseTime 1) (withCalendar .running leapEve quiet)) = [(.wrongState, [])] := by decide

/-- GET_TIME's ten bytes (R107, 11.3). -/
theorem test_get_time :
    replies (answer (.getTime 1) (withCalendar (.held 0) leapEve quiet))
      = [(.ok, [24, 2, 28, 23, 59, 58, 2, 1, 1, 1])] := by decide

/-- The loss of the crystal makes the calendar INVALID, and CLOCK_LOST has no stamp (R92, R106, R145). -/
theorem test_crystal_stopped :
    let s := after .crystalStopped (withCalendar .running leapEve quiet)
    s.calendar.state = .invalid ∧ s.reports.records = [⟨.clockLost, 1, 0, 1, none⟩] := by decide

/-- The middle of a second sets the blink phase off (R57). -/
theorem test_half_second_tick : (after (.halfSecondTick false) quiet).frame.blinkOn = false := by decide

/-! ## Cells and fields (R29, R34, R39) -/

/-- The table of R34: a field of four cells. -/
theorem test_value_layouts :
    let b (suppress : Bool) (point : Nat) : Binding := ⟨.value, 0, 0, 4, suppress, point⟩
    (b false 0).showValue 7 = .value [.digit 0, .digit 0, .digit 0, .digit 7]
      ∧ (b false 0).showValue (-7) = .value [.minus, .digit 0, .digit 0, .digit 7]
      ∧ (b true 0).showValue 0 = .value [.blank, .blank, .blank, .digit 0]
      ∧ (b true 2).showValue 49 = .value [.blank, .digit 0, .digit 4, .digit 9]
      ∧ (b true 2).showValue (-149) = .value [.minus, .digit 1, .digit 4, .digit 9]
      ∧ (b true 1).showValue (-5) = .minus true
      ∧ (b false 0).showValue (-1234) = .minus true
      ∧ (b false 0).showValue 12345 = .minus true := by decide

/-- The REMAIN field of 11.4 at 140 s shows blank 2. 2 0 and the clock field of 17:41 shows 1 7. 4 1. -/
theorem test_clock_and_remain_fields :
    (⟨.remain, 0, 0, 4, true, 2⟩ : Binding).showing (Vector.replicate 8 0) State.reset.calendar (some (some 140))
        = .value [.blank, .digit 2, .digit 2, .digit 0]
      ∧ (⟨.clockHM, 0, 4, 4, false, 2⟩ : Binding).showing (Vector.replicate 8 0)
          (withCalendar .running ⟨2024, 9, 16, 17, 41, 30, 0⟩ quiet).calendar none
        = .value [.digit 1, .digit 7, .digit 4, .digit 1] := by decide

/-- ADD_VALUE meets the upper limit (R39). -/
theorem test_add_value_clamps :
    let s := quiet.setCells { quiet.cells with values := quiet.cells.values.set 2 999000 }
    replies (answer (.addValue 1 2 2000) s) = [(.ok, [0x3F, 0x42, 0x0F, 0x00, 1])] := by decide

/-- GET_VALUE sends −2 in two's complement, least significant byte first (R173). -/
theorem test_get_value :
    let s := quiet.setCells { quiet.cells with values := quiet.cells.values.set 7 (-2) }
    replies (answer (.getValue 1 7) s) = [(.ok, [0xFE, 0xFF, 0xFF, 0xFF])] := by decide

/-- A value beyond the range is refused (R38). -/
theorem test_set_value_out_of_range : replies (answer (.setValue 1 0 1000000) quiet) = [(.badField, [])] := by decide

/-- A cell needs a segment (R25), and the point alone is none. -/
theorem test_set_cell_without_a_segment :
    replies (answer (.setCell 1 0 (List.replicate 7 (0xFF, 0xFF) ++ [(7, 9)])) quiet) = [(.badField, [])] := by decide

/-- An undefined cell reads as absent references (R28). -/
theorem test_get_cell_undefined :
    replies (answer (.getCell 1 9) quiet) = [(.ok, 0 :: 0 :: List.replicate 16 0xFF)] := by decide

/-- CLEAR_CELL of an undefined cell (R27). -/
theorem test_clear_cell_undefined : replies (answer (.clearCell 1 9) quiet) = [(.noSuch, [])] := by decide

/-! ## The glass (3.9) -/

/-- Segment 20 of 3.9 in the two blink phases. -/
theorem test_six_stages :
    let picture : Dots := (Vector.replicate 48 (0 : Byte)).set 20 0b00100111
    let mask : Dots := (Vector.replicate 48 (0 : Byte)).set 20 0b00000011
    let drive (on : Bool) := compose ⟨4, .f64⟩ ⟨.shown, true, 9, 0b11111011⟩ on true (some mask) picture
    let segment (d : Drive) : Option Byte := match d with
      | .scanned _ _ image => image[20]?
      | .ground => none
    segment (drive false) = some 0b00001011 ∧ segment (drive true) = some 0b00001000 := by decide

/-- SET_GLASS outside OFF (R43), and a duty of 9. -/
theorem test_set_glass_refusals :
    replies (answer (.setGlass 1 4 1) (quiet.setFrame { quiet.frame with display := ⟨.shown, false, 8, 255⟩ }))
        = [(.wrongState, [])]
      ∧ replies (answer (.setGlass 1 9 1) quiet) = [(.badField, [])] := by decide

/-- SET_DISPLAY and GET_DISPLAY (R46, R48). -/
theorem test_display :
    replies (answer (.getDisplay 1) (answer (.setDisplay 1 1 1 9 0xFB) quiet))
      = [(.ok, []), (.ok, [1, 1, 9, 0xFB, 8, 1, 0, 0])] := by decide

/-! ## Pages and drafts (1.9, 11.5) -/

/-- A commit of a page at version 3 gives version 4, and its reply names both (11.5 step 7). -/
theorem test_commit_replaces_a_page :
    let s := answer (.commit 9 0) (withDrafts (.editing (blankDraft 7) 0) .free (withPages [7] quiet))
    replies s = [] ∧ replies (after .frameBoundary s) = [(.ok, [7, 4])] := by decide

/-- A commit that binds an undefined cell names it (R12, R174). -/
theorem test_commit_names_the_undefined_cell :
    let body : DraftBody := { blankDraft 7 with fields := (FieldList.unused).set 1 (some ⟨.value, 0, 2, 4, false, 0⟩) }
    replies (answer (.commit 9 0) (withDrafts (.editing body 0) .free (withCells quiet))) = [(.noSuch, [4])] := by decide

/-- While a commit of page 9 is pending, DELETE_PAGE and the draft's requests meet WRONG_STATE, OPEN_DRAFT IN_USE (R17). -/
theorem test_pending_commit_holds_back :
    let s := committing (withPages [9] quiet)
    replies (answer (.deletePage 1 9) s) = [(.wrongState, [])] ∧ replies (answer (.abandon 1 1) s) = [(.wrongState, [])]
      ∧ replies (answer (.openDraft 1 9 0) s) = [(.inUse, [])] := by decide

/-- The tenth second tick expires a draft (R9). -/
theorem test_draft_expires :
    let s := after .draftIdleCount (ticked (withDrafts (.editing (blankDraft 7) 9) .free quiet))
    s.store.drafts[0] = .free ∧ queued s = [(.draftEnded, 7, 1)] := by decide

/-- WRITE_DOTS writes from its offset (R7, R175). -/
theorem test_write_dots :
    let s := answer (.writeDots 1 0 46 [5, 6]) (withDrafts (.editing (blankDraft 7) 3) .free quiet)
    s.store.drafts[0] = .editing { blankDraft 7 with image := ((Vector.replicate 48 (0 : Byte)).set 46 5).set 47 6 } 0 := by
  decide

/-- A WRITE_BLINK of no bytes removes the mask (R8). -/
theorem test_write_blink_removes :
    (answer (.writeBlink 1 0 0 []) (withDrafts (.editing { blankDraft 7 with mask := some Dots.none } 3) .free quiet)).store.drafts[0]
      = .editing (blankDraft 7) 0 := by decide

/-- A point position of 7 exceeds every count (R176). -/
theorem test_bind_field_point_7 :
    replies (answer (.bindField 1 0 0 4 0 0 6 7) (withDrafts (.editing (blankDraft 7) 3) .free quiet)) = [(.badField, [])] := by
  decide

/-- READ_PAGE of the last two segments (R22): version, no mask, two bytes. -/
theorem test_read_page : replies (answer (.readPage 1 7 0 46) (withPages [7] quiet)) = [(.ok, [3, 0, 0, 0])] := by decide

/-- LIST_PAGES (11.3). -/
theorem test_list_pages : replies (answer (.listPages 1) (withPages [5, 7] quiet)) = [(.ok, [2, 5, 3, 7, 3])] := by decide

/-! ## Rotation (4.10) -/

/-- SELECT_LIST (1) re-seats on cursor 0, RUNNING (4.10 step 1). -/
theorem test_select_list :
    replies (answer (.selectList 1 1) (rotating none quiet)) = [(.ok, [2, 0])]
      ∧ (answer (.selectList 1 1) (rotating none quiet)).rotation.seat = some ⟨0, 5⟩ := by decide

/-- Tick 8 of 4.10 passes the absent page 99 and is no wrap. -/
theorem test_advance_passes_an_absent_page :
    let s := after .dwellCount (ticked (rotating (some ⟨1, 1⟩) quiet))
    s.rotation.seat = some ⟨3, 2⟩ ∧ queued s = [] := by decide

/-- Tick 10 of 4.10 wraps to step 0. -/
theorem test_advance_wraps :
    let s := after .dwellCount (ticked (rotating (some ⟨3, 1⟩) quiet))
    s.rotation.seat = some ⟨0, 5⟩ ∧ queued s = [(.listWrapped, 1, 0)] := by decide

/-- DELETE_PAGE (20) moves the cursor on to step 1 (4.10 step 3). -/
theorem test_delete_current_page :
    (answer (.deletePage 1 20) (rotating (some ⟨0, 4⟩) quiet)).rotation.seat = some ⟨1, 3⟩ := by decide

/-- SET_LIST with a dwell of 0 (R63), and GET_LIST (R64). -/
theorem test_set_and_get_list :
    replies (answer (.setList 1 1 0 [(20, 0)]) quiet) = [(.badField, [])]
      ∧ replies (answer (.getList 1 1) (rotating none quiet)) = [(.ok, [1, 4, 20, 5, 21, 3, 99, 4, 20, 2])] := by decide

/-- The pause flag (R69). -/
theorem test_pause_and_resume :
    (answer (.pauseRotation 1) quiet).rotation.paused = true
      ∧ (answer (.resumeRotation 1) (answer (.pauseRotation 1) quiet)).rotation.paused = false := by decide

/-! ## Overrides (5.9) -/

/-- Step 1 of 5.9: priority 2 finds no room. -/
theorem test_show_now_no_room : replies (answer (.showNow 1 16 2 60) crowded) = [(.noRoom, [])] := by decide

/-- Step 2 of 5.9: priority 4 evicts the record of page 10. -/
theorem test_show_now_evicts :
    let s := answer (.showNow 1 16 4 60) crowded
    replies s = [(.ok, [2, 6, 10])] ∧ queued s = [(.overrideEnded, 10, 4)]
      ∧ s.stack.records = fullStack.drop 1 ++ [⟨.host 16, 16, 4, some 60⟩] := by decide

/-- Step 3 of 5.9: slot 4's record is replaced and moves to the end. -/
theorem test_schedule_show_replaces :
    (crowded.takeShow 4 17 6 300).stack.records.getLast? = some ⟨.schedule 4, 17, 6, some 300⟩
      ∧ (crowded.takeShow 4 17 6 300).stack.selection.page = some 17 := by decide

/-- Step 4 of 5.9: slot 20's priority 2 is refused. -/
theorem test_schedule_show_refused : queued (crowded.takeShow 20 18 2 0) = [(.overrideRefused, 20, 18)] := by decide

/-- CLEAR_BELOW (3) of the stack of 5.9 removes four records in age order. -/
theorem test_clear_below :
    let s := answer (.clearBelow 1 3) crowded
    replies s = [(.ok, [4])]
      ∧ queued s = [(.overrideEnded, 10, 2), (.overrideEnded, 11, 2), (.overrideEnded, 13, 2), (.overrideEnded, 14, 2)] := by
  decide

/-- The last second of an override (5.9 step 6). -/
theorem test_override_expires :
    let s := after .overrideCountdown (ticked (crowded.setStack
      { crowded.stack with records := [⟨.schedule 2, 15, 5, some 1⟩, ⟨.host 16, 16, 4, some 16⟩] }))
    s.stack.records = [⟨.host 16, 16, 4, some 15⟩] ∧ queued s = [(.overrideEnded, 15, 1)]
      ∧ s.stack.selection = ⟨some 16, .override, some (.host 16)⟩ := by decide

/-- LIST_OVERRIDES (R87, 11.3). -/
theorem test_list_overrides :
    replies (answer (.listOverrides 1) (crowded.setStack
      ⟨[⟨.schedule 4, 11, 2, some 600⟩, ⟨.host 12, 12, 5, none⟩], ⟨some 12, .override, some (.host 12)⟩⟩))
      = [(.ok, [2, 1, 0, 4, 11, 2, 0x58, 0x02, 1, 0, 12, 5, 0, 0])] := by decide

/-! ## Schedule (chapter 7) -/

/-- Day 31 of April can never match, day 29 of February can (R113). -/
theorem test_set_entry_days :
    replies (answer (.setEntry 1 0 0 0 31 0 4 0 2 0 0 0) quiet) = [(.badField, [])]
      ∧ replies (answer (.setEntry 1 0 0 0 29 0 2 0 2 0 0 0) quiet) = [(.ok, [])] := by decide

/-- An entry reads back byte for byte (R117). -/
theorem test_get_entry :
    replies (answer (.getEntry 2 31) (answer (.setEntry 1 31 0 6 0xFF 0x1F 0xFF 3 1 17 6 300) quiet))
      = [(.ok, []), (.ok, [1, 0, 6, 0xFF, 0x1F, 0xFF, 3, 1, 17, 6, 0x2C, 0x01])] := by decide

/-- A minute start acts, reports with its own stamp and spends a ONCE entry, in this order (R119 to R122). -/
theorem test_minute_start :
    let s := after .minuteStart (minuteDue true true (.display .allDark) quiet)
    s.frame.display.mode = .allDark ∧ s.reports.records = [⟨.entryFired, 4, 4, 1, some ⟨6, 0⟩⟩]
      ∧ s.schedule.slots[4] = .holds .spent (everyMinute true true (.display .allDark)) := by decide

/-- A minute start handed over is taken before the calendar leaves its minute: the entry fires when the crystal stops, and a SET_TIME
with hold 1 follows it (R97, R121, R126). -/
theorem test_minute_start_precedes_the_end_of_running :
    let s := minuteDue false true (.display .allDark) quiet
    queued (after .crystalStopped s) = [(.entryFired, 4, 4), (.clockLost, 1, 0)]
      ∧ (answer (.setTime 1 24 9 16 6 0 0 1) s).frame.display.mode = .allDark
      ∧ (answer (.setTime 1 24 9 16 6 0 0 1) s).schedule.minuteStarts = [] := by decide

/-- A slot request that the link refuses leaves an unfinished walk as it stands (R167). -/
theorem test_refused_request_leaves_the_walk :
    let s := minuteDue true true (.display .allDark) quiet
    let begun := s.beginWalk.setLink { s.link with unanswered := [3] }
    replies (after (.getEntry 3 4) begun) = [(.dupTag, [])]
      ∧ (after (.getEntry 3 4) begun).schedule = begun.schedule := by decide

/-- No entry fires while the calendar is not RUNNING (R126). -/
theorem test_no_firing_while_invalid :
    let s := minuteDue true true (.display .allDark) quiet
    (after .minuteStart (s.setCalendar { s.calendar with state := .invalid })).frame.display.mode = quiet.frame.display.mode
      ∧ after (.scheduleDisplay 2) (s.setCalendar { s.calendar with state := .held 0 })
        = s.setCalendar { s.calendar with state := .held 0 } := by decide

/-- The hand-off of a SHOW of an absent page (R79). -/
theorem test_schedule_show_page_missing :
    queued (after (.scheduleShow 4 17 6 300) (minuteDue false false (.showPage 17 6 300) quiet)) = [(.pageMissing, 17, 4)] := by
  decide

/-- A SELECT of a list without steps (R62) and a CLEAR_BELOW of an empty stack report nothing. -/
theorem test_schedule_select_and_clear_below :
    (after (.scheduleSelect 3) (minuteDue false false (.selectList 3) quiet)).rotation.active = 3
      ∧ queued (after (.scheduleClearBelow 7) (minuteDue false true (.clearBelow 7) quiet)) = [(.entryFired, 4, 3)] := by decide

/-- ARM_ENTRY of a FREE slot (R116), and CLEAR_ENTRY of one (R115). -/
theorem test_arm_and_clear_free_slot :
    replies (answer (.armEntry 1 5) quiet) = [(.noSuch, [])] ∧ replies (answer (.clearEntry 1 5) quiet) = [(.ok, [])]
      ∧ replies (answer (.disarmEntry 1 32) quiet) = [(.badField, [])] := by decide

/-! ## Archive (11.5) -/

/-- A SAVE with A valid at 9 and B at 8 writes B with number 10 and clears the dirty flag (11.5 step 1). -/
theorem test_save_target :
    let s := quiet.setArchive { quiet.archive with
      bankA := .marked 9 Collections.factory true, recordA := some 9
      bankB := .marked 8 Collections.factory true, recordB := some 8 }
    (answer (.save 6) s).archive.op.target = some .b ∧ (answer (.save 6) s).archive.recordB = none
      ∧ (answer (.save 6) s).archive.dirty = false ∧ replies (answer (.save 6) s) = [] := by decide

/-- A verify that fails is answered FAILED, and ARCHIVE_INFO reads A valid 9, B invalid (11.5 steps 5 and 6; the validity bytes 1 and 0
are log entry 27). -/
theorem test_save_fails :
    replies (answer (.archiveInfo 6) (after (.saveEnd false) (saving quiet)))
      = [(.failed, []), (.ok, [1, 9, 0, 0, 0, 0, 0, 0, 0, 0, 0, 1, 0, 0xFF, 0, 0, 8, 0xFE, 0x3F, 1])] := by decide

/-- A verify that passes is answered OK (1, 10) (11.5 step 10). -/
theorem test_save_passes : replies (after (.saveEnd true) (saving quiet)) = [(.ok, [1, 10, 0, 0, 0])] := by decide

/-- A damaged bank fails a RESTORE and stays valid until the next start (R133, R140, R144). -/
theorem test_restore_of_a_damaged_bank :
    let s := after .restoreComplete (after (.bankDamaged .a 9) (restoring quiet))
    replies s = [(.failed, [])] ∧ s.archive.recordA = some 9 := by decide

/-- SET_STARTUP (R131): a start list of 4 is refused. -/
theorem test_set_startup : replies (answer (.setStartup 1 4 1 8 0x3FFE 1) quiet) = [(.badField, [])] := by decide

/-! ## Starts -/

/-- RESETN falls and rises: STARTED (2, 2) follows the start-up (R142, R154). -/
theorem test_warm_start :
    queued (after .startupComplete (after .resetnRelease (after .resetnFall quiet))) = [(.started, 2, 2)] := by decide

/-- The BAUD strap high at power-on (R156). -/
theorem test_baud_strap : (after (.powerOn true true) quiet).link.speed = .baud115200 := by decide


/-! ## Witnesses: for every statement with hypotheses, states and operands that meet them, clause by clause -/

/-- A request command that the link has handed over in a state, which meets a condition. -/
def Meets (c : Instr) (s : State) (P : State → Prop) : Prop := (given c s).HasHanded c ∧ P (given c s)

/-- StepRunsFrontCommand. -/
theorem witness_front : (quiet.setPending [.secondTick, .identify 1]).pending = .secondTick :: [.identify 1] := rfl

/-- StepKeepsReportQueueLaw, and its premise in ReportSettlesByTheTable. -/
theorem witness_reportLaw : (State.reset.setPending [.secondTick]).ReportsOk
    ∧ ∃ t, step (State.reset.setPending [.secondTick]) = .next t := by
  refine ⟨?_, _, rfl⟩
  simp only [State.ReportsOk, recordsOk]; decide

/-- StepKeepsCalendarLaw, at the last second of 2099. -/
theorem witness_calendarLaw :
    let s := (ticked (withCalendar .running ⟨2099, 12, 31, 23, 59, 59, 3⟩ quiet)).setPending [.calendarSecondCount]
    s.calendar.Ok ∧ ∃ t, step s = .next t := by
  have fields : CalendarFields.Ok ⟨2099, 12, 31, 23, 59, 59, 3⟩ := by simp only [CalendarFields.Ok]; decide
  exact ⟨⟨fields, by decide, rfl⟩, _, rfl⟩

/-- ColdStartLeavesReset. -/
theorem witness_coldStart : quiet.archive.bankA = .unmarked ∧ quiet.archive.bankB = .unmarked := ⟨rfl, rfl⟩

/-- RequestReadsBack: a list of 16 steps, 34 payload bytes. -/
theorem witness_requestReadsBack :
    (Instr.setList 15 3 1 (List.replicate 16 (254, 255))).wellFormed = true
      ∧ (Instr.setList 15 3 1 (List.replicate 16 (254, 255))).toRequest
        = some ⟨15, 0x40, 3 :: 1 :: pairBytes (List.replicate 16 (254, 255))⟩ := ⟨by decide, rfl⟩

/-- FrameReachesTheChecks, with the longest payload. -/
theorem witness_frame :
    quiet.phase = .listening ∧ quiet.link.receiver = .hunt ∧ (Request.mk 0 1 (List.replicate 63 0)).payload.length ≤ 63 := by
  decide

/-- ReceiverTakesBytes: every state of the receiver, the least and the greatest LEN, and the bytes beside them. -/
theorem witness_receiver :
    ((quiet.receive .length).phase = .listening ∧ (quiet.receive .length).link.receiver = .length
        ∧ 2 ≤ (2 : Byte).toNat ∧ (65 : Byte).toNat ≤ 65 ∧ (1 : Byte).toNat < 2 ∧ 65 < (66 : Byte).toNat)
      ∧ (quiet.phase = .listening ∧ quiet.link.receiver = .hunt)
      ∧ ((quiet.receive (.body 2 [] 2)).phase = .listening ∧ (quiet.receive (.body 2 [] 2)).link.receiver = .body 2 [] 2)
      ∧ ((quiet.receive (.body 2 [3] 1)).phase = .listening ∧ (quiet.receive (.body 2 [3] 1)).link.receiver = .body 2 [3] 1)
      ∧ ((quiet.receive (.check 2 [3, 1])).phase = .listening
        ∧ (quiet.receive (.check 2 [3, 1])).link.receiver = .check 2 (3 :: 1 :: [])
        ∧ ([2, 3, 1, 0xFB] : List Byte).foldl (· + ·) 0 ≠ 0 ∧ ([2, 3, 1, 0xFA] : List Byte).foldl (· + ·) 0 = 0)
      ∧ (after .resetnFall quiet).phase ≠ .listening := by decide

/-- LinkChecksInOrder: a frame for each check, codes 00 and 5C beside the table, SET_LIST of 2 + 2 · 16 bytes and of 3, ADD_VALUE's 5
bytes beside 4, PING's 63 beside 64, and the refusal with one free place and with none. -/
theorem witness_linkChecks :
    let busy := quiet.setLink { quiet.link with unanswered := [0, 1, 2, 3] }
    let replied (n : Nat) := quiet.setLink { quiet.link with replies := List.replicate n ⟨1, .ok, [], false⟩ }
    (15 < (16 : Byte).toNat ∧ (15 : Byte).toNat ≤ 15)
      ∧ ((3 : Byte) ∈ busy.link.unanswered ∧ (15 : Byte) ∉ busy.link.unanswered ∧ 4 ≤ busy.link.unanswered.length)
      ∧ ((15 : Byte) ∉ quiet.link.unanswered ∧ quiet.link.unanswered.length < 4)
      ∧ (replies (quiet.checkRequest ⟨15, 0x00, []⟩) = [(.badCode, [])]
        ∧ replies (quiet.checkRequest ⟨15, 0x5C, []⟩) = [(.badCode, [])]
        ∧ replies (quiet.checkRequest ⟨15, 0x40, [1, 0, 7]⟩) = [(.badLength, [])]
        ∧ replies (quiet.checkRequest ⟨15, 0x25, [1, 0, 0, 0]⟩) = [(.badLength, [])]
        ∧ replies (quiet.checkRequest ⟨15, 0x01, List.replicate 64 0⟩) = [(.badLength, [])]
        ∧ (quiet.checkRequest ⟨15, 0x40, List.replicate 34 1⟩).link.unanswered = [15]
        ∧ (quiet.checkRequest ⟨15, 0x01, List.replicate 63 0⟩).link.unanswered = [15])
      ∧ ((replied 7).link.replies.length + ((replied 7).store.commits.length
            + (if (replied 7).archive.op = .none then 0 else 1) + (if (replied 7).link.handed = none then 0 else 1)) < 8
        ∧ 8 ≤ (replied 8).link.replies.length + ((replied 8).store.commits.length
            + (if (replied 8).archive.op = .none then 0 else 1) + (if (replied 8).link.handed = none then 0 else 1))) := by
  decide

/-- HandOffAndReply: a hand-off that goes through, one for each condition that fails, and a reply that is sent. -/
theorem witness_handOff :
    let s := quiet.setLink { quiet.link with inbox := [⟨3, 1, []⟩], unanswered := [3] }
    let waits := s.setLink { s.link with replies := [⟨1, .ok, [], true⟩] }
    let full := s.setLink { s.link with replies := List.replicate 8 ⟨1, .ok, [], false⟩ }
    (s.link.inbox = ⟨3, 1, []⟩ :: [] ∧ s.link.handed = none ∧ 0 < s.freePlaces ∧ s.restartWaits = false)
      ∧ (quiet.link.inbox = [] ∧ (given (.identify 1) s).link.handed ≠ none ∧ full.freePlaces = 0
        ∧ waits.restartWaits = true)
      ∧ (waits.link.replies = ⟨1, .ok, [], true⟩ :: [] ∧ waits.link.restartDue = false)
      ∧ (quiet.link.replies = [] ∧ (waits.setLink { waits.link with restartDue := true }).link.restartDue = true) := by decide

/-- SentRequestIsTaken: a request that goes through, and one for each obstacle of a listening link. -/
theorem witness_sent :
    let link (l : Link) := quiet.setLink l
    let get : Instr := .getTime 3
    let handed := link { quiet.link with handed := some ⟨4, 1, []⟩ }
    get.toRequest = some ⟨3, 0x12, []⟩ ∧ handed.phase = .listening ∧ handed.link.receiver = .hunt ∧ handed.link.handed ≠ none
      ∧ handed.link.handed ≠ some ⟨3, 0x12, []⟩
      ∧ (3 : Byte) ∈ (link { quiet.link with unanswered := [3] }).link.unanswered
      ∧ 4 ≤ (link { quiet.link with unanswered := [0, 1, 2, 4] }).link.unanswered.length
      ∧ (link { quiet.link with inbox := [⟨4, 1, []⟩], unanswered := [4] }).link.inbox ≠ []
      ∧ (link { quiet.link with replies := List.replicate 8 ⟨1, .ok, [], false⟩ }).freePlaces = 0
      ∧ (link { quiet.link with replies := [⟨1, .ok, [], true⟩] }).restartWaits = true
      ∧ (Instr.getTime 16).toRequest = some ⟨16, 0x12, []⟩ ∧ 15 < (16 : Byte).toNat
      ∧ (after .resetnFall quiet).phase ≠ .listening ∧ (after .resetnFall quiet).link.handed ≠ some ⟨3, 0x12, []⟩ := by decide

/-- SentRequestIsTaken: the state in which nothing stands in the way. -/
theorem witness_sentThrough :
    (Instr.setValue 15 7 (-99999)).wellFormed = true
      ∧ (Instr.setValue 15 7 (-99999)).toRequest = some ⟨15, 0x24, 7 :: quadBytes (-99999)⟩
      ∧ quiet.phase = .listening ∧ quiet.link.receiver = .hunt ∧ quiet.link.inbox = [] ∧ quiet.link.handed = none
      ∧ (15 : Byte) ∉ quiet.link.unanswered ∧ quiet.link.unanswered.length < 4 ∧ 0 < quiet.freePlaces
      ∧ quiet.restartWaits = false := by decide

/-- LinkRequestsReadThePart, and the first clause of RestartRunsThroughItsReply. -/
theorem witness_linkRequests :
    Meets (.ping 15 (List.replicate 63 7)) quiet (fun _ => True) ∧ Meets (.identify 0) quiet (fun _ => True)
      ∧ Meets (.status 0) quiet (fun _ => True) ∧ Meets (.restart 0) quiet (fun _ => True) :=
  ⟨⟨⟨_, rfl, rfl⟩, trivial⟩, ⟨⟨_, rfl, rfl⟩, trivial⟩, ⟨⟨_, rfl, rfl⟩, trivial⟩, ⟨⟨_, rfl, rfl⟩, trivial⟩⟩

/-- RestartRunsThroughItsReply: a RESTART reply that waits, one that has left over each state of the calendar, and none due. -/
theorem witness_restart :
    let waits := quiet.setLink { quiet.link with replies := [⟨2, .ok, [], true⟩] }
    let due (s : State) := s.setLink { s.link with restartDue := true }
    (∃ r ∈ waits.link.replies, r.restarts = true)
      ∧ ((due quiet).phase = .listening ∧ (due quiet).link.restartDue = true ∧ (due quiet).calendar.state = .invalid)
      ∧ ((due (withCalendar (.held 1) leapEve quiet)).phase = .listening
        ∧ (due (withCalendar (.held 1) leapEve quiet)).calendar.state = .held 1)
      ∧ (due (withCalendar .running leapEve quiet)).calendar.state = .running
      ∧ quiet.link.restartDue = false ∧ (after .resetnFall (due quiet)).phase ≠ .listening := by
  simp only [exists_eq_left, List.mem_singleton, State.setLink]; decide

/-- The report queue holds `n` records of PAGE_MISSING. -/
def filled (n : Nat) : State :=
  State.reset.setReports
    { State.reset.reports with records := (List.range n).map fun i => ⟨.pageMissing, i, 0, 255, none⟩ }

/-- The premise of ReportSettlesByTheTable, with one place left. -/
theorem filled_15_ok : (filled 15).ReportsOk := by simp only [State.ReportsOk, recordsOk]; decide

/-- The same with a full queue. -/
theorem filled_16_ok : (filled 16).ReportsOk := by simp only [State.ReportsOk, recordsOk]; decide

/-- ReportSettlesByTheTable: a disabled kind, a record that stands, a full queue and one with room for one record more. -/
theorem witness_reports :
    ((filled 15).phase = .listening ∧ (filled 15).ReportsOk ∧ Kind.selection ≠ .started
        ∧ (filled 15).reports.mask.getLsbD Kind.selection.code = false)
      ∧ ((filled 15).reports.mask.getLsbD Kind.pageMissing.code = true
        ∧ (filled 15).reports.records[14]? = some ⟨.pageMissing, 14, 0, 255, none⟩)
      ∧ ((filled 16).ReportsOk ∧ (filled 16).phase = .listening ∧ (filled 16).reports.records.length = 16
        ∧ ∀ r ∈ (filled 16).reports.records, ¬(r.kind = .pageMissing ∧ r.subject = 16))
      ∧ ((filled 15).reports.records.length < 16
        ∧ ∀ r ∈ (filled 15).reports.records, ¬(r.kind = .pageMissing ∧ r.subject = 16)) :=
  ⟨⟨rfl, filled_15_ok, by decide, by decide⟩, by decide, ⟨filled_16_ok, by decide⟩, by decide⟩

/-- StartedIsTheFirstReport, during a start: a report of the kind and subject of one held aside, and one of another subject. -/
theorem witness_reportsAside :
    let s := (after .resetnFall quiet).offer .clockLost 1 0
    s.phase ≠ .listening ∧ s.ReportsOk ∧ s.reports.aside[0]? = some ⟨.clockLost, 1, 0, 1, none⟩
      ∧ ∀ r ∈ s.reports.aside, ¬(r.kind = .clockLost ∧ r.subject = 2) := by
  refine ⟨by decide, ?_, by decide, by decide⟩
  simp only [State.ReportsOk, recordsOk]; decide

/-- ReportRequests: max 0, 1, 8 and 9; every other enable. -/
theorem witness_reportRequests :
    Meets (.fetchReports 0 0) State.reset (fun _ => (0 : Byte).toNat = 0)
      ∧ Meets (.fetchReports 0 9) State.reset (fun _ => 8 < (9 : Byte).toNat)
      ∧ Meets (.fetchReports 0 1) State.reset (fun _ => 1 ≤ (1 : Byte).toNat ∧ (1 : Byte).toNat ≤ 8)
      ∧ Meets (.fetchReports 0 8) State.reset (fun _ => 1 ≤ (8 : Byte).toNat ∧ (8 : Byte).toNat ≤ 8)
      ∧ Meets (.setReportMask 0 0xFFFF) State.reset (fun _ => True) ∧ Meets (.setAttn 0 0) State.reset (fun _ => True)
      ∧ Meets (.setAttn 0 1) State.reset (fun _ => True)
      ∧ Meets (.setAttn 0 2) State.reset (fun _ => (2 : Byte) ≠ 0 ∧ (2 : Byte) ≠ 1) := by
  repeat' apply And.intro
  all_goals first | exact ⟨_, rfl, rfl⟩ | trivial

/-- SetTimeWritesOrRefuses: 29 February of 2099 is out of range, 28 February in; hold 0, 1 and 2. -/
theorem witness_setTime :
    let run := withCalendar .invalid CalendarFields.cold quiet
    Meets (.setTime 0 99 2 29 23 59 59 0) run (fun _ => ¬TimeInRange 99 2 29 23 59 59)
      ∧ Meets (.setTime 0 99 2 28 23 59 59 2) run (fun _ => 1 < (2 : Byte).toNat)
      ∧ Meets (.setTime 0 99 2 28 23 59 59 1) quiet
        (fun s => TimeInRange 99 2 28 23 59 59 ∧ (1 : Byte).toNat ≤ 1 ∧ s.calendar.crystal = .stopped)
      ∧ Meets (.setTime 0 0 1 1 0 0 0 0) run (fun s => TimeInRange 0 1 1 0 0 0 ∧ s.calendar.crystal = .running)
      ∧ Meets (.setTime 0 99 12 31 23 59 59 1) run
        (fun s => TimeInRange 99 12 31 23 59 59 ∧ s.calendar.crystal = .running) := by
  simp only [Meets, TimeInRange]
  repeat' apply And.intro
  all_goals first | exact ⟨_, rfl, rfl⟩ | decide

/-- HoldIsReleasedAndTimeIsRead. -/
theorem witness_hold :
    Meets (.releaseTime 0) (withCalendar (.held 1) leapEve quiet) (fun s => s.calendar.state = .held 1)
      ∧ Meets (.releaseTime 0) quiet (fun s => s.calendar.state = .invalid)
      ∧ Meets (.releaseTime 0) (withCalendar .running leapEve quiet) (fun s => s.calendar.state = .running)
      ∧ ((withCalendar (.held 0) leapEve quiet).calendar.state = .held 0
        ∧ (withCalendar (.held 0) leapEve quiet).calendar.sync = true ∧ quiet.calendar.sync = false)
      ∧ Meets (.setSync 0 0) quiet (fun _ => True) ∧ Meets (.setSync 0 1) quiet (fun _ => True)
      ∧ Meets (.setSync 0 2) quiet (fun _ => (2 : Byte) ≠ 0 ∧ (2 : Byte) ≠ 1) ∧ Meets (.getTime 0) quiet (fun _ => True) := by
  repeat' apply And.intro
  all_goals first | exact ⟨_, rfl, rfl⟩ | trivial

/-- TicksAndCrystalChanges: both crystal statuses, and a part that listens and one that starts. -/
theorem witness_ticks :
    (withCalendar .running leapEve quiet).calendar.crystal = .running ∧ quiet.calendar.crystal = .stopped
      ∧ quiet.phase = .listening ∧ (after .resetnFall quiet).phase ≠ .listening := by decide

/-- SecondTickAtTheCalendar: every state of the calendar with a tick owed, seconds 58 and 59, the last second of 2099, both
values of the hold timer, and a start. -/
theorem witness_secondTick :
    let at_ (f : CalendarFields) := ticked (withCalendar .running f quiet)
    let held (n : Nat) := ticked (withCalendar (.held n) leapEve quiet)
    quiet.owed.calendar = 0
      ∧ (0 < (ticked quiet).owed.calendar ∧ (ticked quiet).calendar.state = .invalid)
      ∧ (0 < (at_ leapEve).owed.calendar ∧ (at_ leapEve).calendar.state = .running
        ∧ (at_ leapEve).calendar.fields.second < 59)
      ∧ ((at_ ⟨2099, 12, 31, 23, 58, 59, 3⟩).calendar.state = .running
        ∧ (at_ ⟨2099, 12, 31, 23, 58, 59, 3⟩).calendar.fields.second = 59
        ∧ ¬((58 : Nat) = 59))
      ∧ (at_ ⟨2099, 12, 31, 23, 59, 59, 3⟩).calendar.fields = ⟨2099, 12, 31, 23, 59, 59, 3⟩
      ∧ ((held 0).calendar.state = .held 0 ∧ (held 1).calendar.state = .held 1 ∧ 0 < (held 1).owed.calendar
        ∧ (held 1).phase = .listening ∧ ((held 1).setPhase (.resetHeld .resetn)).phase ≠ .listening) := by decide

/-- NextSecondIsOneSecondLater: the last second of a leap February, and the last second of 2099. -/
theorem witness_nextSecond :
    (⟨2096, 2, 29, 23, 59, 59, 2⟩ : CalendarFields).Ok ∧ (⟨2096, 2, 29, 23, 59, 59, 2⟩ : CalendarFields).isLast = false
      ∧ (⟨2099, 12, 31, 23, 59, 59, 3⟩ : CalendarFields).Ok
      ∧ (⟨2099, 12, 31, 23, 59, 59, 3⟩ : CalendarFields).isLast = true := by
  simp only [CalendarFields.Ok]; decide

/-- The references of the cell on segment line 9 are good (R26). -/
theorem good_nine : (∀ p ∈ nineRefs, p = (0xFF, 0xFF) ∨ p.1.toNat ≤ 7 ∧ p.2.toNat ≤ 47)
    ∧ ∃ p ∈ nineRefs.take 7, p ≠ (0xFF, 0xFF) := by simp [nineRefs]

/-- Common 8 is no common (R26). -/
theorem bad_refs : ¬∀ p ∈ List.replicate 8 ((8 : Byte), (0 : Byte)), p = (0xFF, 0xFF) ∨ p.1.toNat ≤ 7 ∧ p.2.toNat ≤ 47 := by
  simp

/-- CellRequests: cells 0 and 15 and 16, a busy archive, and a cell that a stored page uses and one that none uses. -/
theorem witness_cells :
    let used := (withCells quiet).setStore
      { quiet.store with pages := [{ blankPage 7 with fields := FieldList.unused.set 0 (some ⟨.value, 0, 0, 2, false, 0⟩) }] }
    let covers (f : FieldList) (i : Nat) : Prop := ∃ b ∈ f.bound, b.first ≤ i ∧ i < b.first + b.count
    let good (refs : List (Byte × Byte)) : Prop :=
      (∀ p ∈ refs, p = (0xFF, 0xFF) ∨ p.1.toNat ≤ 7 ∧ p.2.toNat ≤ 47) ∧ ∃ p ∈ refs.take 7, p ≠ (0xFF, 0xFF)
    Meets (.setCell 0 16 nineRefs) quiet (fun _ => nineRefs.length = 8 ∧ 15 < (16 : Byte).toNat)
      ∧ Meets (.setCell 0 15 (List.replicate 8 (8, 0))) quiet (fun _ => ¬good (List.replicate 8 (8, 0)))
      ∧ Meets (.setCell 0 15 nineRefs) (saving quiet)
        (fun s => (15 : Byte).toNat = (15 : Fin 16).val ∧ good nineRefs ∧ s.archive.op ≠ .none)
      ∧ Meets (.setCell 0 15 nineRefs) quiet
        (fun s => (15 : Byte).toNat = (15 : Fin 16).val ∧ good nineRefs ∧ s.archive.op = .none)
      ∧ Meets (.clearCell 0 16) quiet (fun _ => 15 < (16 : Byte).toNat)
      ∧ Meets (.clearCell 0 1) (saving used) (fun s => (1 : Byte).toNat = (1 : Fin 16).val ∧ s.archive.op ≠ .none)
      ∧ Meets (.clearCell 0 15) quiet (fun s => s.archive.op = .none ∧ s.cells.table[(15 : Fin 16)] = none)
      ∧ Meets (.clearCell 0 1) used (fun s => s.cells.table[(1 : Fin 16)] ≠ none ∧ ∃ p ∈ s.store.pages, covers p.fields 1)
      ∧ Meets (.clearCell 0 2) used (fun s => s.cells.table[(2 : Fin 16)] ≠ none
        ∧ (¬∃ p ∈ s.store.pages, covers p.fields 2) ∧ s.store.drafts.toList = [.free, .free])
      ∧ Meets (.getCell 0 16) quiet (fun _ => 15 < (16 : Byte).toNat)
      ∧ Meets (.getCell 0 15) quiet (fun s => s.cells.table[(15 : Fin 16)] = none)
      ∧ Meets (.getCell 0 1) used (fun s => s.cells.table[(1 : Fin 16)] = some (cellOn 1)
        ∧ ∃ p ∈ s.store.pages, covers p.fields 1)
      ∧ Meets (.getCell 0 2) used (fun s => s.cells.table[(2 : Fin 16)] = some (cellOn 2)
        ∧ (¬∃ p ∈ s.store.pages, covers p.fields 2) ∧ s.store.drafts.toList = [.free, .free]) := by
  repeat' apply And.intro
  all_goals first | exact ⟨_, rfl, rfl⟩ | rfl | exact good_nine.1 | exact good_nine.2 | exact fun h => bad_refs h.1 | decide

/-- ValueRegisterRequests: registers 7 and 8, the limits of the range and the values beside them, and sums on either side. -/
theorem witness_values :
    let full := quiet.setCells { quiet.cells with values := Vector.replicate 8 999999 }
    let low := quiet.setCells { quiet.cells with values := Vector.replicate 8 (-99999) }
    Meets (.setValue 0 8 0) quiet (fun _ => 7 < (8 : Byte).toNat)
      ∧ Meets (.setValue 0 0 (-100000)) quiet (fun _ => (-100000 : Quad).toInt < -99999)
      ∧ Meets (.setValue 0 0 1000000) quiet (fun _ => 999999 < (1000000 : Quad).toInt)
      ∧ Meets (.setValue 0 7 (-99999)) quiet (fun _ => (7 : Byte).toNat = (7 : Fin 8).val ∧ -99999 ≤ (-99999 : Quad).toInt)
      ∧ Meets (.setValue 0 7 999999) quiet (fun _ => (999999 : Quad).toInt ≤ 999999)
      ∧ Meets (.addValue 0 8 0) quiet (fun _ => 7 < (8 : Byte).toNat)
      ∧ Meets (.addValue 0 7 (-1)) low (fun s => s.cells.values[(7 : Fin 8)] + (-1 : Quad).toInt < -99999)
      ∧ Meets (.addValue 0 7 0) low (fun s => -99999 ≤ s.cells.values[(7 : Fin 8)] + (0 : Quad).toInt)
      ∧ Meets (.addValue 0 7 0) full (fun s => s.cells.values[(7 : Fin 8)] + (0 : Quad).toInt ≤ 999999)
      ∧ Meets (.addValue 0 7 1) full (fun s => 999999 < s.cells.values[(7 : Fin 8)] + (1 : Quad).toInt)
      ∧ Meets (.getValue 0 8) quiet (fun _ => 7 < (8 : Byte).toNat)
      ∧ Meets (.getValue 0 7) quiet (fun _ => (7 : Byte).toNat = (7 : Fin 8).val) := by
  repeat' apply And.intro
  all_goals first | exact ⟨_, rfl, rfl⟩ | decide

/-- FieldsShowTheirSources: a value that fits by one cell and one that does not, every other source, and a remaining time at both ends. -/
theorem witness_fields :
    let b (suppress : Bool) (point : Nat) : Binding := ⟨.value, 0, 12, 4, suppress, point⟩
    let k (b : Binding) : Nat := if b.suppress = true ∧ b.point ≠ 0 then b.count - b.point + 1 else 1
    ((b true 2).Ok ∧ (-99999 : Int) ≤ -149 ∧ (-149 : Int) ≤ 999999
        ∧ max (max 1 (Nat.digits 10 (-149 : Int).natAbs).length) (k (b true 2)) + 1 ≤ 4)
      ∧ ((b true 1).Ok ∧ 4 < max (max 1 (Nat.digits 10 (-5 : Int).natAbs).length) (k (b true 1)) + 1)
      ∧ ((⟨.clockHM, 0, 0, 4, false, 2⟩ : Binding).suppress = false ∧ leapEve.Ok
        ∧ (withCalendar .running leapEve quiet).calendar.state ≠ .invalid ∧ quiet.calendar.state = .invalid)
      ∧ ((⟨.remain, 0, 0, 4, false, 2⟩ : Binding).source = .remain ∧ (5999 : Nat) ≤ 5999 ∧ 5999 < (6000 : Nat)) := by
  simp only [Binding.Ok, CalendarFields.Ok]
  norm_num
  decide

/-- RenderedDotIsLitOrKept: a written dot and one that no binding writes. -/
theorem witness_rendered :
    let fields := FieldList.unused.set 0 (some ⟨.value, 0, 0, 1, false, 0⟩)
    let table := (withCells quiet).cells.table
    (∃ b ∈ FieldList.bound fields, ∃ k < b.count, ∃ cell : Cell, table[b.first + k]? = some (some cell)
        ∧ ∃ j : Fin 8, cell[j] = some ⟨7, 0⟩)
      ∧ FieldList.bound FieldList.unused = [] :=
  ⟨⟨⟨.value, 0, 0, 1, false, 0⟩, by decide, 0, by decide, cellOn 0, by decide, 7, by decide⟩, by decide⟩

/-- GlassAndDisplayRequests: duties 0, 1, 8 and 9, a mode other than OFF, a busy archive; the greatest display settings. -/
theorem witness_glass :
    let shown := quiet.setFrame { quiet.frame with display := ⟨.shown, false, 8, 255⟩ }
    Meets (.setGlass 0 0 2) quiet (fun _ => ¬(1 ≤ (0 : Byte).toNat))
      ∧ Meets (.setGlass 0 9 2) quiet (fun _ => ¬((9 : Byte).toNat ≤ 8))
      ∧ Meets (.setGlass 0 8 3) quiet (fun _ => ¬((3 : Byte).toNat ≤ 2))
      ∧ Meets (.setGlass 0 8 2) shown
        (fun s => 1 ≤ (8 : Byte).toNat ∧ (8 : Byte).toNat ≤ 8 ∧ (2 : Byte).toNat ≤ 2 ∧ s.frame.display.mode ≠ .off)
      ∧ Meets (.setGlass 0 1 0) (saving quiet)
        (fun s => 1 ≤ (1 : Byte).toNat ∧ s.frame.display.mode = .off ∧ s.archive.op ≠ .none)
      ∧ Meets (.setGlass 0 1 2) quiet
        (fun s => FrameRate.f128.code = (2 : Byte).toNat ∧ s.frame.display.mode = .off ∧ s.archive.op = .none)
      ∧ Meets (.setDisplay 0 4 0 0 0) quiet (fun _ => 3 < (4 : Byte).toNat)
      ∧ Meets (.setDisplay 0 3 2 0 0) quiet (fun _ => 1 < (2 : Byte).toNat)
      ∧ Meets (.setDisplay 0 3 1 16 0) quiet (fun _ => 15 < (16 : Byte).toNat)
      ∧ Meets (.setDisplay 0 3 1 15 0) quiet
        (fun _ => Mode.allClear.code = (3 : Byte).toNat ∧ (1 : Byte).toNat ≤ 1 ∧ (15 : Byte).toNat ≤ 15)
      ∧ Meets (.getDisplay 0) quiet (fun _ => True) := by
  repeat' apply And.intro
  all_goals first | exact ⟨_, rfl, rfl⟩ | trivial

/-- ComposedDotFollowsTheStages: each display mode, and the corner dots. -/
theorem witness_composed :
    (⟨.off, false, 0, 0⟩ : Display).mode = .off ∧ (⟨.allDark, false, 0, 0⟩ : Display).mode = .allDark
      ∧ (⟨.allClear, false, 0, 0⟩ : Display).mode = .allClear ∧ (⟨.shown, true, 15, 255⟩ : Display).mode = .shown
      ∧ (0 < 8 ∧ 0 < 48 ∧ 7 < 8 ∧ 47 < 48) := by decide

/-- FrameBoundaryLatchesTheSelection and OverflowLatchesFollowTheFields: a latched page with a selected record and without, no page,
a start. -/
theorem witness_boundary :
    (crowded.stack.records = fullStack.take 5 ++ ⟨.schedule 2, 15, 5, some 45⟩ :: []
        ∧ crowded.stack.selection.record = some (.schedule 2) ∧ (∀ x ∈ fullStack.take 5, x.identity ≠ .schedule 2)
        ∧ quiet.stack.selection.record = none)
      ∧ (crowded.phase = .listening ∧ crowded.store.commits = [] ∧ crowded.stack.selection.page = some 15
        ∧ crowded.findPage 15 = some (blankPage 15))
      ∧ (quiet.phase = .listening ∧ quiet.store.commits = [] ∧ quiet.stack.selection.page.bind quiet.findPage = none)
      ∧ (after .resetnFall quiet).phase ≠ .listening := by decide

/-- OverflowLatchesFollowTheFields: a field that overflows with a clear latch, and one that fits. -/
theorem witness_overflow :
    let b : Binding := ⟨.value, 0, 0, 4, false, 0⟩
    (some (b.showing (Vector.replicate 8 10000) quiet.calendar none) : Option Showing) = some (.minus true)
      ∧ (some (b.showing (Vector.replicate 8 9999) quiet.calendar none) : Option Showing)
        = some (.value [.digit 9, .digit 9, .digit 9, .digit 9])
      ∧ (blankPage 7).latches[(0 : Fin 4)] = false := by decide

/-- CommitsCompleteAtTheBoundary: a commit of a new id is pending. -/
theorem witness_commits :
    (committing quiet).phase = .listening ∧ (committing quiet).DraftsOk
      ∧ (committing quiet).store.commits[0]? = some ⟨1, true, 5⟩
      ∧ (committing quiet).store.drafts[(1 : Fin 2)] = .committing (blankDraft 9) := by
  refine ⟨rfl, ?_, rfl, rfl⟩
  have b7 : FieldList.Ok (blankDraft 7).fields := fun _ h => absurd h List.not_mem_nil
  have b9 : FieldList.Ok (blankDraft 9).fields := fun _ h => absurd h List.not_mem_nil
  have u9 : FieldList.CellsDefined (blankDraft 9).fields (committing quiet).cells.table := by
    simp only [FieldList.CellsDefined]; decide
  have drafts : (committing quiet).store.drafts.toList = [.editing (blankDraft 7) 3, .committing (blankDraft 9)] := rfl
  refine ⟨?_, by decide, by decide, by decide, by decide, ?_, by decide, by decide⟩
  · rw [drafts]
    simp only [List.mem_cons, List.not_mem_nil, or_false, forall_eq_or_imp, forall_eq]
    exact ⟨⟨⟨by decide, by decide⟩, b7, by decide⟩, ⟨⟨by decide, by decide⟩, b9⟩⟩
  · rw [drafts]
    simp only [List.mem_cons, List.not_mem_nil, or_false, forall_eq_or_imp, forall_eq]
    exact ⟨trivial, u9⟩

/-- The reset state with one command waiting. -/
def started : State := State.reset.setPending [.secondTick]

/-- The factory collections are legal (R129). -/
theorem factory_ok : Collections.factory.Ok := by
  refine ⟨by simp only [Glass.Ok]; decide, ?_, ?_, ?_, ?_, by simp only [StartupRecord.Ok]; decide⟩
  · exact fun c h => absurd h List.not_mem_nil
  · exact ⟨by decide, List.Pairwise.nil, fun p h => absurd h List.not_mem_nil⟩
  · intro l h
    have : l = ⟨[], false⟩ := by simpa [Collections.factory] using h
    subst this
    exact ⟨by decide, fun x h => absurd h List.not_mem_nil⟩
  · intro x h
    have : x = .free := by simpa [Collections.factory] using h
    subst this
    trivial

/-- CommitsCompleteAtTheBoundary: legal collections, and a rotation that the new id re-seats. -/
theorem witness_commitsReseat :
    let starved := (committing quiet).setRotation
      { quiet.rotation with lists := quiet.rotation.lists.set 1 ⟨[⟨9, 5⟩], false⟩, active := 1 }
    (committing quiet).CollectionsOk
      ∧ (starved.rotation.seat = none ∧ (∃ step ∈ starved.rotation.activeList.steps, step.page = 9))
      ∧ (after .frameBoundary starved).rotation.seat = some ⟨0, 5⟩
      ∧ (after .frameBoundary starved).frame.latched.page = some 9 :=
  ⟨⟨factory_ok, by decide, List.Pairwise.nil, fun p h => absurd h List.not_mem_nil⟩, by decide, by decide, by decide⟩

/-- StepKeepsTheLaw. -/
theorem witness_law : started.Inv ∧ ∃ t, step started = .next t := by
  refine ⟨⟨?_, ?_, ?_, ?_, ?_, ?_, ?_, rfl, ?_, ?_, ?_, ?_, witness_reportLaw.1, ?_, fun h => absurd rfl h⟩, _, rfl⟩
  · exact ⟨factory_ok, by decide, List.Pairwise.nil, fun p h => absurd h List.not_mem_nil⟩
  · have drafts : started.store.drafts.toList = [.free, .free] := rfl
    refine ⟨?_, by decide, by decide, by decide, by decide, ?_, by decide, by decide⟩
    · rw [drafts]; simp [Draft.Ok]
    · rw [drafts]; simp [Draft.CellsDefined]
  · simp only [CellUnit.ValuesOk]; decide
  · simp only [FrameEngine.Ok]; decide
  · exact ⟨by simp only [CalendarFields.Ok]; decide, by decide, trivial⟩
  · exact fun step h => absurd h List.not_mem_nil
  · exact ⟨by decide, by decide, fun o h => absurd h List.not_mem_nil⟩
  · exact ⟨List.Pairwise.nil, fun f h => absurd h List.not_mem_nil, fun m h => absurd h List.not_mem_nil⟩
  · exact ⟨fun m h => absurd h List.not_mem_nil, fun f h => absurd h List.not_mem_nil⟩
  · refine ⟨trivial, trivial, ?_, ?_, ?_, ?_, trivial⟩
    · exact fun n h => absurd h (by simp [started, State.reset, State.setPending, Archive.record])
    · exact fun n h => absurd h (by simp [started, State.reset, State.setPending, Archive.record])
    · decide
    · decide
  · exact fun _ => by decide
  · refine ⟨trivial, by decide, by decide, List.Perm.nil, by decide, fun r h => absurd h List.not_mem_nil, by decide,
      by decide, by decide⟩

/-- DraftChecksComeFirst: draft 2, a FREE draft 1 and a COMMITTING draft 1. -/
theorem witness_draftChecks :
    Meets (.writeDots 0 2 0 [1]) quiet (fun _ => 1 < (2 : Byte).toNat)
      ∧ Meets (.commit 0 1) quiet (fun s => (1 : Byte).toNat = (1 : Fin 2).val ∧ s.store.drafts[(1 : Fin 2)] = .free)
      ∧ Meets (.unbindField 0 1 0) (committing quiet)
        (fun s => (1 : Byte).toNat = (1 : Fin 2).val ∧ s.store.drafts[(1 : Fin 2)] = .committing (blankDraft 9)) := by
  repeat' apply And.intro
  all_goals first | exact ⟨_, rfl, rfl⟩ | rfl | decide

/-- OpenDraftTakesTheLowestSlot: pages 0, 255 and 254, a restore, a target that is named, two full slots, an absent page, slot 0
FREE and slot 1 alone FREE. -/
theorem witness_openDraft :
    let one := withDrafts (.editing (blankDraft 7) 0) .free (withPages [254] quiet)
    let two := withDrafts (.editing (blankDraft 7) 0) (.editing (blankDraft 8) 0) quiet
    Meets (.openDraft 0 0 0) quiet (fun _ => ¬((0 : Byte) ≠ 0))
      ∧ Meets (.openDraft 0 255 1) quiet (fun _ => ¬((255 : Byte) ≠ 255))
      ∧ Meets (.openDraft 0 254 2) quiet (fun _ => ¬((2 : Byte).toNat ≤ 1))
      ∧ Meets (.openDraft 0 254 1) (restoring quiet)
        (fun s => (254 : Byte) ≠ 0 ∧ (254 : Byte) ≠ 255 ∧ (1 : Byte).toNat ≤ 1 ∧ s.archive.op = .restore .a 6)
      ∧ Meets (.openDraft 0 7 0) one
        (fun s => s.archive.op = .none ∧ ∃ d : Fin 2, s.store.drafts[d].target = some (7 : Byte).toNat)
      ∧ Meets (.openDraft 0 254 0) two (fun s => s.archive.op = .none
        ∧ (¬∃ d : Fin 2, s.store.drafts[d].target = some (254 : Byte).toNat)
        ∧ s.store.drafts[(0 : Fin 2)] ≠ .free ∧ s.store.drafts[(1 : Fin 2)] ≠ .free)
      ∧ Meets (.openDraft 0 253 1) one (fun s => (¬∃ d : Fin 2, s.store.drafts[d].target = some (253 : Byte).toNat)
        ∧ s.store.drafts[(1 : Fin 2)] = .free ∧ s.findPage (253 : Byte).toNat = none)
      ∧ Meets (.openDraft 0 254 1) one (fun s => s.store.drafts[(1 : Fin 2)] = .free
        ∧ (∀ e : Fin 2, e < 1 → s.store.drafts[e] ≠ .free) ∧ s.archive.op = .none
        ∧ (¬∃ d : Fin 2, s.store.drafts[d].target = some (254 : Byte).toNat)
        ∧ s.findPage (254 : Byte).toNat = some (blankPage 254))
      ∧ Meets (.openDraft 0 1 0) quiet (fun s => s.store.drafts[(0 : Fin 2)] = .free
        ∧ (∀ e : Fin 2, e < 0 → s.store.drafts[e] ≠ .free)
        ∧ ¬∃ d : Fin 2, s.store.drafts[d].target = some (1 : Byte).toNat) := by
  repeat' apply And.intro
  all_goals first | exact ⟨_, rfl, rfl⟩ | rfl | decide

/-- DotWritesEditTheDraft: writes that end at segment 47 and one beyond it, and the three forms of WRITE_BLINK. -/
theorem witness_dotWrites :
    let s := withDrafts (.editing (blankDraft 7) 9) .free quiet
    let editing (s : State) : Prop := (0 : Byte).toNat = (0 : Fin 2).val ∧ s.store.drafts[(0 : Fin 2)] = .editing (blankDraft 7) 9
    Meets (.writeDots 0 0 47 [1]) s (fun s => editing s ∧ (47 : Byte).toNat + [(1 : Byte)].length ≤ 48)
      ∧ Meets (.writeDots 0 0 47 [1, 2]) s (fun s => editing s ∧ 48 < (47 : Byte).toNat + [(1 : Byte), 2].length)
      ∧ Meets (.writeBlink 0 0 0 []) s (fun s => editing s ∧ ([] : List Byte) = [] ∧ (0 : Byte) = 0)
      ∧ Meets (.writeBlink 0 0 1 []) s (fun s => editing s ∧ (1 : Byte) ≠ 0)
      ∧ Meets (.writeBlink 0 0 0 (List.replicate 48 1)) s
        (fun s => editing s ∧ List.replicate 48 (1 : Byte) ≠ [] ∧ (0 : Byte).toNat + (List.replicate 48 (1 : Byte)).length ≤ 48)
      ∧ Meets (.writeBlink 0 0 48 [1]) s (fun s => editing s ∧ 48 < (48 : Byte).toNat + [(1 : Byte)].length) := by
  repeat' apply And.intro
  all_goals first | exact ⟨_, rfl, rfl⟩ | rfl | decide

/-- FieldEditsChangeOneIndex: indices 3 and 4, a binding whose last cell is 15 and one whose last cell is 16. -/
theorem witness_fieldEdits :
    let s := withDrafts (.editing (blankDraft 7) 9) .free quiet
    let editing (s : State) : Prop := (0 : Byte).toNat = (0 : Fin 2).val ∧ s.store.drafts[(0 : Fin 2)] = .editing (blankDraft 7) 9
    let good (source register first count options : Byte) : Prop :=
      source.toNat ≤ 5 ∧ 1 ≤ count.toNat ∧ count.toNat ≤ 6 ∧ first.toNat + count.toNat ≤ 16 ∧
        (source.toNat ≠ 4 → count.toNat = 4 ∧ register.toNat = 0) ∧ (source.toNat = 4 → register.toNat ≤ 7) ∧
        options.toNat % 8 ≤ count.toNat ∧ options.toNat / 8 % 16 = 0
    Meets (.bindField 0 0 4 4 7 10 6 0x86) s (fun s => editing s ∧ 3 < (4 : Byte).toNat)
      ∧ Meets (.bindField 0 0 3 4 7 11 6 0x86) s (fun s => editing s ∧ ¬good 4 7 11 6 0x86)
      ∧ Meets (.bindField 0 0 3 4 7 10 6 0x86) s
        (fun s => editing s ∧ (3 : Byte).toNat = (3 : Fin 4).val ∧ Source.value.code = (4 : Byte).toNat ∧ good 4 7 10 6 0x86)
      ∧ Meets (.bindField 0 0 0 5 0 12 4 4) s (fun s => editing s ∧ Source.remain.code = (5 : Byte).toNat ∧ good 5 0 12 4 4)
      ∧ Meets (.unbindField 0 0 4) s (fun s => editing s ∧ 3 < (4 : Byte).toNat)
      ∧ Meets (.unbindField 0 0 3) s (fun s => editing s ∧ (3 : Byte).toNat = (3 : Fin 4).val) := by
  repeat' apply And.intro
  all_goals first | exact ⟨_, rfl, rfl⟩ | rfl | decide

/-- CommitIsDeferredOrRefused: an undefined cell, no room, a busy archive, a new id that takes the last place, an ABANDON. -/
theorem witness_commit :
    let bound : DraftBody := { blankDraft 7 with fields := FieldList.unused.set 1 (some ⟨.value, 0, 2, 4, false, 0⟩) }
    let pages (n : Nat) := withDrafts (.editing (blankDraft 254) 0) .free (withPages ((List.range n).map (· + 1)) quiet)
    Meets (.commit 0 0) (withDrafts (.editing bound 0) .free (withCells quiet))
        (fun s => s.store.drafts[(0 : Fin 2)] = .editing bound 0 ∧ firstUndefinedCell s.cells.table bound.fields = some 4)
      ∧ Meets (.commit 0 0) (pages 24) (fun s => s.store.drafts[(0 : Fin 2)] = .editing (blankDraft 254) 0
        ∧ firstUndefinedCell s.cells.table (blankDraft 254).fields = none ∧ s.findPage 254 = none
        ∧ 24 < s.store.pages.length + s.store.pendingNew + 1)
      ∧ Meets (.commit 0 0) (saving (pages 23)) (fun s => s.store.drafts[(0 : Fin 2)] = .editing (blankDraft 254) 0
        ∧ ¬(24 < s.store.pages.length + s.store.pendingNew + 1) ∧ s.archive.op ≠ .none)
      ∧ Meets (.commit 0 0) (pages 23) (fun s => s.store.drafts[(0 : Fin 2)] = .editing (blankDraft 254) 0
        ∧ firstUndefinedCell s.cells.table (blankDraft 254).fields = none
        ∧ ¬(24 < s.store.pages.length + s.store.pendingNew + 1) ∧ s.archive.op = .none)
      ∧ Meets (.abandon 0 0) (pages 0) (fun s => s.store.drafts[(0 : Fin 2)] = .editing (blankDraft 254) 0) := by
  repeat' apply And.intro
  all_goals first | exact ⟨_, rfl, rfl⟩ | rfl | decide

/-- The rotation of 4.10 is seated as R60 gives. -/
theorem rotating_ok : (rotating (some ⟨0, 4⟩) quiet).SeatOk := ⟨⟨20, 5⟩, rfl, by decide⟩

/-- Its stored collections are legal (R129). -/
theorem rotating_collections : (rotating (some ⟨0, 4⟩) quiet).CollectionsOk := by
  have blank (id : Nat) (h : idOk id) : (blankPage id).Ok :=
    ⟨h, show 3 ≤ 255 by decide, fun _ h => absurd h List.not_mem_nil, by intro i _; fin_cases i <;> rfl⟩
  have pages : pagesOk (rotating (some ⟨0, 4⟩) quiet).cells.table [blankPage 20, blankPage 21] := by
    refine ⟨by decide, by decide, ?_⟩
    simp only [List.mem_cons, List.not_mem_nil, or_false, forall_eq_or_imp, forall_eq]
    exact ⟨⟨blank 20 ⟨by decide, by decide⟩, rfl⟩, ⟨blank 21 ⟨by decide, by decide⟩, rfl⟩⟩
  refine ⟨⟨by simp only [Glass.Ok]; decide, fun c h => absurd h List.not_mem_nil, pages, ?_, factory_ok.2.2.2.2.1,
    factory_ok.2.2.2.2.2⟩, pages⟩
  have lists : (rotating (some ⟨0, 4⟩) quiet).snapshot.lists.toList
      = [⟨[], false⟩, ⟨wrapSteps, true⟩, ⟨[], false⟩, ⟨[], false⟩] := rfl
  rw [lists]
  have empty : RotationList.Ok ⟨[], false⟩ := ⟨by decide, fun x h => absurd h List.not_mem_nil⟩
  have wraps : RotationList.Ok ⟨wrapSteps, true⟩ := by simp only [RotationList.Ok, idOk]; decide
  simp only [List.mem_cons, List.not_mem_nil, or_false, forall_eq_or_imp, forall_eq]
  exact ⟨empty, wraps, empty, empty⟩

/-- DeletePageRemovesItEverywhere: pages 0 and 255, an absent page, the target of a pending commit, a busy archive, and the
cursor's own page. -/
theorem witness_deletePage :
    let s := rotating (some ⟨0, 4⟩) quiet
    Meets (.deletePage 0 0) s (fun _ => ¬((0 : Byte) ≠ 0)) ∧ Meets (.deletePage 0 255) s (fun _ => ¬((255 : Byte) ≠ 255))
      ∧ Meets (.deletePage 0 254) s (fun s => (254 : Byte) ≠ 0 ∧ (254 : Byte) ≠ 255 ∧ s.findPage (254 : Byte).toNat = none)
      ∧ Meets (.deletePage 0 9) (withPages [9] (committing quiet)) (fun s => s.findPage (9 : Byte).toNat = some (blankPage 9)
        ∧ s.store.drafts[(1 : Fin 2)] = .committing (blankDraft 9) ∧ (blankDraft 9).target = (9 : Byte).toNat)
      ∧ Meets (.deletePage 0 20) (saving s) (fun s => s.findPage (20 : Byte).toNat = some (blankPage 20)
        ∧ s.store.drafts.toList = [.free, .free] ∧ s.archive.op ≠ .none)
      ∧ Meets (.deletePage 0 20) s (fun s => s.findPage (20 : Byte).toNat = some (blankPage 20)
        ∧ s.store.drafts.toList = [.free, .free] ∧ s.archive.op = .none ∧ s.SeatOk ∧ s.CollectionsOk) := by
  refine ⟨?_, ?_, ?_, ?_, ?_, ⟨_, rfl, rfl⟩, rfl, rfl, rfl, rotating_ok, rotating_collections⟩
  all_goals repeat' apply And.intro
  all_goals first | exact ⟨_, rfl, rfl⟩ | rfl | decide

/-- DeletePageRemovesItEverywhere: a page that is not current, the next step that stays, found past an absent one, and no step that
stays. -/
theorem witness_deleteCurrent :
    let s := rotating (some ⟨1, 1⟩) quiet
    let alone := (withPages [20] s).setRotation { s.rotation with seat := some ⟨0, 4⟩ }
    let stays (s : State) (page id : Nat) : Prop := id ≠ page ∧ s.findPage id ≠ none
    s.rotation.currentPage ≠ some 20
      ∧ (s.rotation.currentPage = some 21 ∧ s.rotation.activeList.steps[(1 + 2) % 4]? = some ⟨20, 2⟩ ∧ stays s 21 20
        ∧ s.rotation.activeList.steps[(1 + 1) % 4]? = some ⟨99, 4⟩ ∧ ¬stays s 21 99)
      ∧ (alone.rotation.currentPage = some 20 ∧ ∀ step ∈ alone.rotation.activeList.steps, ¬stays alone 20 step.page) := by decide

/-- PagesAreReadBack: every reason to refuse, an absent page, and the three parts with and without a mask. -/
theorem witness_readPage :
    let masked := quiet.setStore { quiet.store with pages := [{ blankPage 254 with mask := some Dots.none }] }
    let good (page part offset : Byte) : Prop :=
      page ≠ 0 ∧ page ≠ 255 ∧ part.toNat ≤ 2 ∧ offset.toNat ≤ 47 ∧ (part = 2 → offset = 0)
    Meets (.listPages 0) masked (fun _ => True) ∧ Meets (.readPage 0 0 0 0) masked (fun _ => ¬good 0 0 0)
      ∧ Meets (.readPage 0 254 3 0) masked (fun _ => ¬good 254 3 0)
      ∧ Meets (.readPage 0 254 0 48) masked (fun _ => ¬good 254 0 48)
      ∧ Meets (.readPage 0 254 2 1) masked (fun _ => ¬good 254 2 1)
      ∧ Meets (.readPage 0 1 1 47) masked (fun s => good 1 1 47 ∧ s.findPage (1 : Byte).toNat = none)
      ∧ Meets (.readPage 0 254 1 47) masked (fun s => good 254 1 47
        ∧ s.findPage (254 : Byte).toNat = some { blankPage 254 with mask := some Dots.none })
      ∧ Meets (.readPage 0 254 1 0) (withPages [254] quiet) (fun s => good 254 1 0
        ∧ s.findPage (254 : Byte).toNat = some (blankPage 254) ∧ (blankPage 254).mask = none)
      ∧ Meets (.readPage 0 254 2 0) (withPages [254] quiet) (fun s => good 254 2 0
        ∧ s.findPage (254 : Byte).toNat = some (blankPage 254)) := by
  repeat' apply And.intro
  all_goals first | exact ⟨_, rfl, rfl⟩ | trivial

/-- DraftsExpireAtTen, DwellCountsAndAdvances and OverridesCountDown: no tick owed, and one owed with and without an end due. -/
theorem witness_ticksOwed :
    let draft (idle : Nat) := ticked (withDrafts (.editing (blankDraft 7) idle) .free quiet)
    let stack (r : Nat) := ticked (crowded.setStack { crowded.stack with records := [⟨.schedule 2, 15, 5, some r⟩] })
    let turn (cursor left : Nat) := ticked (rotating (some ⟨cursor, left⟩) quiet)
    (quiet.owed.store = 0 ∧ quiet.owed.rotation = 0 ∧ quiet.owed.stack = 0)
      ∧ (0 < (draft 9).owed.store ∧ (draft 9).store.drafts[(0 : Fin 2)] = .editing (blankDraft 7) 9 ∧ 9 ≤ 9)
      ∧ (0 < (draft 8).owed.store ∧ (draft 8).store.drafts.toList = [.editing (blankDraft 7) 8, .free])
      ∧ (0 < (stack 1).owed.stack
        ∧ ∃ o ∈ (stack 1).stack.records, (o.remaining.any fun r => decide (r ≤ 1)) = true)
      ∧ (0 < (stack 2).owed.stack
        ∧ ¬∃ o ∈ (stack 2).stack.records, (o.remaining.any fun r => decide (r ≤ 1)) = true)
      ∧ (0 < (ticked quiet).owed.rotation ∧ (ticked quiet).rotation.seat = none)
      ∧ (0 < (turn 1 2).owed.rotation ∧ (turn 1 2).rotation.paused = false
        ∧ (turn 1 2).rotation.seat = some ⟨1, 2⟩ ∧ 1 < (Seat.mk 1 2).remaining) := by
  decide

/-- DwellCountsAndAdvances: the end of step 1 of 4.10, whose next present step lies two further, and of step 3, which wraps. -/
theorem witness_advance :
    let turn (cursor : Nat) := ticked (rotating (some ⟨cursor, 1⟩) quiet)
    let steps (s : State) := s.rotation.activeList.steps
    ((turn 1).rotation.seat = some ⟨1, 1⟩ ∧ (turn 1).rotation.paused = false ∧ 0 < (turn 1).owed.rotation
        ∧ 1 < (steps (turn 1)).length ∧ 2 ≤ (steps (turn 1)).length
        ∧ (steps (turn 1))[(1 + 2) % (steps (turn 1)).length]? = some ⟨20, 2⟩ ∧ (turn 1).findPage 20 ≠ none
        ∧ (steps (turn 1))[(1 + 1) % (steps (turn 1)).length]? = some ⟨99, 4⟩ ∧ (turn 1).findPage 99 = none)
      ∧ ((turn 3).rotation.seat = some ⟨3, 1⟩ ∧ 3 < (steps (turn 3)).length
        ∧ (steps (turn 3))[(3 + 1) % (steps (turn 3)).length]? = some ⟨20, 5⟩ ∧ (turn 3).findPage 20 ≠ none) := by
  decide

/-- ReseatFindsTheFirstPresentStep: no steps, a first present step after an absent one, and none present. -/
theorem witness_reseat :
    let steps (s : State) := s.rotation.lists[(1 : Fin 4)].steps
    steps quiet = []
      ∧ (let s := withPages [99] (rotating none quiet)
         steps s = [⟨20, 5⟩, ⟨21, 3⟩] ++ ⟨99, 4⟩ :: [⟨20, 2⟩] ∧ (∀ x ∈ [Step.mk 20 5, ⟨21, 3⟩], ¬(s.findPage x.page ≠ none))
          ∧ s.findPage 99 ≠ none)
      ∧ (let s := withPages [] (rotating none quiet)
         steps s ≠ [] ∧ ∀ x ∈ steps s, ¬(s.findPage x.page ≠ none)) := by
  decide

/-- A wrap flag of 2 (R63 order 1). -/
theorem bad_wrap : ¬((2 : Byte).toNat ≤ 1 ∧ ∀ p ∈ ([] : List (Byte × Byte)), p.1 ≠ 0 ∧ p.1 ≠ 255 ∧ p.2 ≠ 0) := by simp

/-- A dwell of 0 (R63 order 2). -/
theorem bad_step :
    ¬((1 : Byte).toNat ≤ 1 ∧ ∀ p ∈ [((254 : Byte), (0 : Byte))], p.1 ≠ 0 ∧ p.1 ≠ 255 ∧ p.2 ≠ 0) := by simp

/-- RotationRequests: lists 3 and 4, a bad flag, a bad step, a busy archive, the active list and another. -/
theorem witness_rotation :
    let good (wrap : Byte) (steps : List (Byte × Byte)) : Prop :=
      wrap.toNat ≤ 1 ∧ ∀ p ∈ steps, p.1 ≠ 0 ∧ p.1 ≠ 255 ∧ p.2 ≠ 0
    Meets (.setList 0 4 0 []) quiet (fun _ => 3 < (4 : Byte).toNat)
      ∧ Meets (.setList 0 3 2 []) quiet (fun _ => ¬good 2 [])
      ∧ Meets (.setList 0 3 1 [(254, 0)]) quiet (fun _ => ¬good 1 [(254, 0)])
      ∧ Meets (.setList 0 3 1 [(254, 255)]) (saving quiet)
        (fun s => (3 : Byte).toNat ≤ 3 ∧ good 1 [(254, 255)] ∧ s.archive.op ≠ .none)
      ∧ Meets (.setList 0 3 1 [(1, 1)]) quiet
        (fun s => (3 : Byte).toNat = (3 : Fin 4).val ∧ good 1 [(1, 1)] ∧ s.archive.op = .none ∧ s.rotation.active ≠ 3)
      ∧ Meets (.setList 0 0 0 []) quiet (fun s => good 0 [] ∧ s.archive.op = .none ∧ s.rotation.active = 0)
      ∧ Meets (.selectList 0 4) quiet (fun _ => 3 < (4 : Byte).toNat)
      ∧ Meets (.selectList 0 3) quiet (fun _ => (3 : Byte).toNat = (3 : Fin 4).val)
      ∧ Meets (.pauseRotation 0) quiet (fun _ => True) ∧ Meets (.resumeRotation 0) quiet (fun _ => True)
      ∧ Meets (.getList 0 4) quiet (fun _ => 3 < (4 : Byte).toNat)
      ∧ Meets (.getList 0 3) quiet (fun _ => (3 : Byte).toNat = (3 : Fin 4).val) := by
  repeat' apply And.intro
  all_goals first
    | exact ⟨_, rfl, rfl⟩
    | exact True.intro
    | exact bad_step
    | exact bad_wrap
    | exact fun p h => absurd h List.not_mem_nil
    | (intro p hp; rw [List.mem_singleton.mp hp]; decide)
    | decide

/-- ShowNowReplacesCreatesOrEvicts: priorities 0, 1, 7 and 8, an absent page, a replacement, a creation in the last place, an
eviction and no room. -/
theorem witness_showNow :
    let five := crowded.setStack { crowded.stack with records := fullStack.take 5 }
    let stands (s : State) (page : Byte) : Prop := ∃ o ∈ s.stack.records, o.identity = .host page.toNat
    Meets (.showNow 0 255 1 0) crowded (fun _ => ¬((255 : Byte) ≠ 255))
      ∧ Meets (.showNow 0 10 0 0) crowded (fun _ => ¬(1 ≤ (0 : Byte).toNat))
      ∧ Meets (.showNow 0 10 8 0) crowded (fun _ => ¬((8 : Byte).toNat ≤ 7))
      ∧ Meets (.showNow 0 254 7 0) crowded (fun s => 1 ≤ (7 : Byte).toNat ∧ s.findPage (254 : Byte).toNat = none)
      ∧ Meets (.showNow 0 10 1 0) crowded (fun s => s.findPage (10 : Byte).toNat ≠ none ∧ stands s 10)
      ∧ Meets (.showNow 0 16 1 0) five (fun s => s.findPage (16 : Byte).toNat ≠ none ∧ ¬stands s 16 ∧ s.stack.records.length < 6)
      ∧ Meets (.showNow 0 16 3 0) crowded (fun s => s.findPage (16 : Byte).toNat ≠ none ∧ ¬stands s 16
        ∧ 6 ≤ s.stack.records.length ∧ (∀ o ∈ s.stack.records, o.priority ≤ 7)
        ∧ ∃ o ∈ s.stack.records, o.priority < (3 : Byte).toNat)
      ∧ Meets (.showNow 0 16 2 0) crowded (fun s => ¬stands s 16 ∧ 6 ≤ s.stack.records.length
        ∧ ∀ o ∈ s.stack.records, (2 : Byte).toNat ≤ o.priority) := by
  repeat' apply And.intro
  all_goals first | exact ⟨_, rfl, rfl⟩ | rfl | decide

/-- OverrideListRequests: the operands beside the ranges, a record that stands and one that does not, and a selected record. -/
theorem witness_overrideLists :
    Meets (.clearOverride 0 0) crowded (fun _ => (0 : Byte) = 0)
      ∧ Meets (.clearOverride 0 254) crowded
        (fun s => (254 : Byte) ≠ 0 ∧ (254 : Byte) ≠ 255 ∧ ¬∃ o ∈ s.stack.records, o.identity = .host (254 : Byte).toNat)
      ∧ Meets (.clearOverride 0 14) crowded (fun s => ∃ o ∈ s.stack.records, o.identity = .host (14 : Byte).toNat)
      ∧ Meets (.clearBelow 0 0) crowded (fun _ => (0 : Byte) = 0) ∧ Meets (.clearBelow 0 8) crowded (fun _ => 7 < (8 : Byte).toNat)
      ∧ Meets (.clearBelow 0 7) crowded (fun _ => (7 : Byte) ≠ 0 ∧ (7 : Byte).toNat ≤ 7)
      ∧ Meets (.listOverrides 0) quiet (fun s => s.stack.selection.record = none)
      ∧ Meets (.listOverrides 0) crowded (fun s => s.stack.records = fullStack.take 5 ++ ⟨.schedule 2, 15, 5, some 45⟩ :: []
        ∧ s.stack.selection.record = some (.schedule 2) ∧ ∀ x ∈ fullStack.take 5, x.identity ≠ .schedule 2) := by
  repeat' apply And.intro
  all_goals first | exact ⟨_, rfl, rfl⟩ | decide

/-- SelectionIsTheTopRecord: the newest of two records of priority 5, a seated rotation and none; a change and no change. -/
theorem witness_selection :
    let rotates := rotating (some ⟨1, 3⟩) quiet
    (crowded.stack.records = fullStack.take 5 ++ ⟨.schedule 2, 15, 5, some 45⟩ :: []
        ∧ (∀ x ∈ fullStack.take 5, x.priority ≤ 5) ∧ ∀ x ∈ ([] : List Override), x.priority < 5)
      ∧ (rotates.stack.records = [] ∧ rotates.rotation.seat = some ⟨1, 3⟩
        ∧ rotates.rotation.activeList.steps[(Seat.mk 1 3).cursor]? = some ⟨21, 3⟩)
      ∧ (quiet.stack.records = [] ∧ quiet.rotation.seat = none)
      ∧ (crowded.recompute.stack.selection.page = crowded.stack.selection.page
        ∧ ¬(rotates.recompute.stack.selection.page = rotates.stack.selection.page)) := by
  decide

/-- The walk of a minute start is begun by a hand-off and has one firing left. -/
def walking (a : Action) : State :=
  (withCalendar .running sixFields quiet).setSchedule
    { quiet.schedule with
      slots := quiet.schedule.slots.set 4 (.holds .armed (everyMinute true true a))
      walk := [⟨4, everyMinute true true a, sixOClock⟩] }

/-- SlotRequestsFollowTheWalk: a request refused and one accepted, each on a walk that is unfinished. -/
theorem witness_slotRequests :
    let bad : Instr := .getEntry 0 32
    let good : Instr := .getEntry 0 4
    Meets bad (walking (.display .off)) (fun s => s.schedule.walk ≠ []
        ∧ exec bad s.finishWalk = .next (s.finishWalk.answered (refusal 0 .badField)))
      ∧ Meets good (walking (.display .off)) (fun s => s.schedule.walk ≠ []
        ∧ replies (after good s.finishWalk) = [(.ok, [3, 255, 255, 255, 0, 255, 3, 4, 0, 0, 0, 0])])
      ∧ good ∈ [Instr.setEntry 0 4 0 0 255 0 255 0 2 0 0 0, .clearEntry 0 4, .armEntry 0 4, .disarmEntry 0 4, .getEntry 0 4,
        .save 0] :=
  ⟨⟨⟨_, rfl, rfl⟩, by decide, rfl⟩, ⟨⟨_, rfl, rfl⟩, by decide, by decide⟩, by decide⟩

/-- SetEntryArmsTheSlot: slots 31 and 32, days that can and cannot fall in their month, each action kind at the ends of its
ranges, and a busy archive. -/
theorem witness_setEntry :
    let part (lo hi : Nat) (x : Byte) : Prop := x = 0xFF ∨ lo ≤ x.toNat ∧ x.toNat ≤ hi
    let longest : List Nat := [31, 29, 31, 30, 31, 30, 31, 31, 30, 31, 30, 31]
    let arguments (action arg1 arg2 : Byte) (duration : Half) : Prop :=
      (action = 1 ∧ 1 ≤ arg1.toNat ∧ arg1.toNat ≤ 254 ∧ 1 ≤ arg2.toNat ∧ arg2.toNat ≤ 7) ∨
      (action = 2 ∧ arg1.toNat ≤ 3 ∧ arg2 = 0 ∧ duration = 0) ∨
      (action = 3 ∧ 1 ≤ arg1.toNat ∧ arg1.toNat ≤ 7 ∧ arg2 = 0 ∧ duration = 0) ∨
      (action = 4 ∧ arg1.toNat ≤ 3 ∧ arg2 = 0 ∧ duration = 0)
    let good (minute hour day weekdays month flags action arg1 arg2 : Byte) (duration : Half) : Prop :=
      part 0 59 minute ∧ part 0 23 hour ∧ part 1 31 day ∧ weekdays.toNat < 128 ∧ part 1 12 month ∧
        (day ≠ 0xFF → weekdays = 0) ∧ flags.toNat < 4 ∧ arguments action arg1 arg2 duration ∧
        (day ≠ 0xFF → month ≠ 0xFF → day.toNat ≤ longest[month.toNat - 1]?.getD 0)
    Meets (.setEntry 0 32 0 0 255 0 255 0 2 0 0 0) quiet (fun s => s.schedule.walk = [] ∧ 31 < (32 : Byte).toNat)
      ∧ Meets (.setEntry 0 31 0 0 30 0 2 0 2 0 0 0) quiet (fun s => s.schedule.walk = [] ∧ ¬good 0 0 30 0 2 0 2 0 0 0)
      ∧ Meets (.setEntry 0 31 59 23 29 0 2 3 4 3 0 0) (saving quiet)
        (fun s => s.schedule.walk = [] ∧ good 59 23 29 0 2 3 4 3 0 0 ∧ s.archive.op ≠ .none)
      ∧ Meets (.setEntry 0 31 255 255 255 127 255 3 1 254 7 65535) quiet (fun s => s.schedule.walk = []
        ∧ (31 : Byte).toNat = (31 : Fin 32).val ∧ good 255 255 255 127 255 3 1 254 7 65535 ∧ s.archive.op = .none)
      ∧ Meets (.setEntry 0 0 0 0 31 0 12 0 3 1 0 0) quiet (fun s => s.schedule.walk = []
        ∧ (0 : Byte).toNat = (0 : Fin 32).val ∧ good 0 0 31 0 12 0 3 1 0 0 ∧ s.archive.op = .none) := by
  refine ⟨⟨⟨_, rfl, rfl⟩, ?_⟩, ⟨⟨_, rfl, rfl⟩, ?_⟩, ⟨⟨_, rfl, rfl⟩, ?_⟩, ⟨⟨_, rfl, rfl⟩, ?_⟩, ⟨_, rfl, rfl⟩, ?_⟩
  all_goals decide

/-- SlotRequestsChangeTheirSlot: slots 31 and 32, a busy archive, a FREE slot and one that holds an entry. -/
theorem witness_slots :
    let holds := (minuteDue false false (.selectList 1) quiet)
    Meets (.clearEntry 0 32) quiet (fun s => s.schedule.walk = [] ∧ 31 < (32 : Byte).toNat)
      ∧ Meets (.clearEntry 0 31) (saving quiet) (fun s => s.schedule.walk = [] ∧ (31 : Byte).toNat ≤ 31 ∧ s.archive.op ≠ .none)
      ∧ Meets (.clearEntry 0 31) quiet (fun s => (31 : Byte).toNat = (31 : Fin 32).val ∧ s.archive.op = .none)
      ∧ Meets (.armEntry 0 32) quiet (fun s => s.schedule.walk = [] ∧ 31 < (32 : Byte).toNat)
      ∧ Meets (.disarmEntry 0 31) (saving quiet) (fun s => s.archive.op ≠ .none)
      ∧ Meets (.armEntry 0 31) quiet (fun s => s.archive.op = .none ∧ s.schedule.slots[(31 : Fin 32)] = .free)
      ∧ Meets (.disarmEntry 0 4) holds (fun s => s.schedule.walk = [] ∧ (4 : Byte).toNat = (4 : Fin 32).val ∧ s.archive.op = .none
        ∧ s.schedule.slots[(4 : Fin 32)] = .holds .armed (everyMinute false false (.selectList 1)))
      ∧ Meets (.getEntry 0 32) quiet (fun _ => 31 < (32 : Byte).toNat)
      ∧ Meets (.getEntry 0 31) quiet (fun s => s.schedule.walk = [] ∧ (31 : Byte).toNat = (31 : Fin 32).val) := by
  repeat' apply And.intro
  all_goals first | exact ⟨_, rfl, rfl⟩ | decide

/-- MinuteStartFiresArmedMatches: a ONCE entry that matches and one of another minute; a minute start that waits, a walk that is
unfinished, nothing that waits, and a calendar that is not RUNNING. -/
theorem witness_minuteStart :
    let s := minuteDue true false (.selectList 1) quiet
    let e := everyMinute true false (.selectList 1)
    let other : Entry := { e with pattern := ⟨some 1, none, .any, none⟩ }
    (s.calendar.state = .running ∧ s.schedule.walk = [] ∧ s.schedule.minuteStarts = sixOClock :: [])
      ∧ (s.schedule.slots[(4 : Fin 32)] = .holds .armed e ∧ e.once = true ∧ e.pattern.allows sixOClock = true)
      ∧ (other.pattern.allows sixOClock = false ∧ s.schedule.slots[(5 : Fin 32)] = .free)
      ∧ ((walking (.selectList 1)).calendar.state = .running ∧ (walking (.selectList 1)).schedule.walk ≠ [])
      ∧ (quiet.calendar.state ≠ .running ∧ quiet.schedule.walk = [] ∧ quiet.schedule.minuteStarts = []) := by decide

/-- ScheduleShowSettlesByTheTable: every row of the table. -/
theorem witness_scheduleShow :
    let five := crowded.setStack { crowded.stack with records := fullStack.take 5 }
    let stands (s : State) (slot : Nat) : Prop := ∃ o ∈ s.stack.records, o.identity = .schedule slot
    crowded.findPage 254 = none ∧ (crowded.findPage 17 ≠ none ∧ stands crowded 4)
      ∧ (¬stands five 20 ∧ five.stack.records.length < 6)
      ∧ (¬stands crowded 20 ∧ 6 ≤ crowded.stack.records.length ∧ (∀ o ∈ crowded.stack.records, o.priority ≤ 7)
        ∧ (∃ o ∈ crowded.stack.records, o.priority < 3) ∧ (2 : Nat) ≤ 7 ∧ ∀ o ∈ crowded.stack.records, 2 ≤ o.priority) := by
  decide

/-- HandOffsCompleteTheNextFiring: a firing of each action kind, at the front of a walk and of a minute start that waits; a calendar
that is not RUNNING, and a minute start without a firing. -/
theorem witness_handOffs :
    let due (a : Action) := minuteDue true true a quiet
    let f (a : Action) : Firing := ⟨4, everyMinute true true a, sixOClock⟩
    let left := walking (.display .off)
    let none := (due (.selectList 3)).setSchedule { quiet.schedule with minuteStarts := [sixOClock] }
    (left.calendar.state = .running ∧ left.schedule.walk = f (.display .off) :: []
        ∧ ([] : List MinuteStart) = left.schedule.minuteStarts)
      ∧ (quiet.calendar.state ≠ .running ∧ none.schedule.walk = []
        ∧ ∀ m ∈ none.schedule.minuteStarts.head?, none.schedule.firings m = [])
      ∧ ((due (.showPage 254 7 65535)).calendar.state = .running ∧ (due (.showPage 254 7 65535)).schedule.walk = []
        ∧ (due (.showPage 254 7 65535)).schedule.minuteStarts = sixOClock :: []
        ∧ (due (.showPage 254 7 65535)).schedule.firings sixOClock = f (.showPage 254 7 65535) :: []
        ∧ (f (.showPage 254 7 65535)).entry.action
          = .showPage (254 : Byte).toNat (7 : Byte).toNat (65535 : Half).toNat)
      ∧ ((due (.selectList 3)).schedule.firings sixOClock = f (.selectList 3) :: [] ∧ (3 : Byte).toNat = (3 : Fin 4).val)
      ∧ ((due (.clearBelow 7)).schedule.firings sixOClock = f (.clearBelow 7) :: []
        ∧ (f (.clearBelow 7)).entry.action = .clearBelow (7 : Byte).toNat)
      ∧ ((due (.display .off)).schedule.firings sixOClock = f (.display .off) :: [] ∧ (0 : Byte).toNat = Mode.off.code) := by
  decide

/-- Both banks stand so, with their records, and nothing is in progress. -/
def withBanks (x y : BankContent) (s : State) : State :=
  s.setArchive { s.archive with bankA := x, bankB := y, recordA := x.checked, recordB := y.checked }

/-- A valid bank of factory collections. -/
def good (n : Nat) : BankContent := .marked n Collections.factory true

/-- SaveAndRestoreBegin: each refusal, and each case of the two validity records. -/
theorem witness_saveBegins :
    let records (x y : BankContent) (a b : Option Nat) : Prop :=
      Meets (.save 0) (withBanks x y quiet) (fun s => s.schedule.walk = [] ∧ s.archive.op = .none ∧ s.store.commits = []
          ∧ s.archive.recordA = a ∧ s.archive.recordB = b)
        ∧ Meets (.restore 0) (withBanks x y quiet) (fun s => s.schedule.walk = [] ∧ s.archive.op = .none ∧ s.store.commits = []
          ∧ s.archive.recordA = a ∧ s.archive.recordB = b)
    (Meets (.save 0) (saving quiet) (fun s => s.archive.op ≠ .none)
        ∧ Meets (.restore 0) (committing quiet) (fun s => s.archive.op = .none ∧ s.store.commits ≠ []))
      ∧ records .unmarked .unmarked none none ∧ records (good 1) .unmarked (some 1) none
      ∧ records .unmarked (good 1) none (some 1) ∧ records (good 8) (good 9) (some 8) (some 9)
      ∧ records (good 9) (good 8) (some 9) (some 8)
      ∧ Meets (.save 0) (withBanks (good 4294967294) (good 4294967295) quiet)
        (fun s => max (s.archive.recordA.getD 0) (s.archive.recordB.getD 0) = 4294967295) := by
  repeat' apply And.intro
  all_goals first | exact ⟨_, rfl, rfl⟩ | rfl | decide

/-- SaveEndsAndBankFaults: a save of each bank, none, and both contents of a bank. -/
theorem witness_saveEnds :
    let toA := quiet.setArchive { quiet.archive with op := .save .a 1 Collections.factory 6 }
    toA.archive.op = .save .a 1 Collections.factory 6
      ∧ (saving quiet).archive.op = .save .b 10 Collections.factory 6 ∧ quiet.archive.op.code ≠ 1
      ∧ (withBanks (good 1) .unmarked quiet).archive.bankA = .marked 1 Collections.factory true
      ∧ (withBanks .unmarked (good 1) quiet).archive.bankB = .marked 1 Collections.factory true
      ∧ quiet.archive.bankA = .unmarked ∧ quiet.archive.bankB = .unmarked := by
  repeat' apply And.intro
  all_goals first | rfl | decide

/-- RestoreInstallsTheImage: a bank whose check passes, with and without an unfinished walk, and one whose check fails. -/
theorem witness_restore :
    (restoring quiet).archive.op = .restore .a 6 ∧ (restoring quiet).schedule.walk = []
      ∧ ((restoring (walking (.display .off))).archive.op = .restore .a 6
        ∧ (restoring (walking (.display .off))).schedule.walk ≠ [])
      ∧ (restoring quiet).archive.content .a = .marked 9 Collections.factory true
      ∧ (restoring quiet).archive.record .a = some 9 ∧ Collections.factory.Ok
      ∧ ∀ (n : Nat) (image : Collections),
        (after (.bankDamaged .a 9) (restoring quiet)).archive.content .a ≠ .marked n image true :=
  ⟨rfl, rfl, ⟨rfl, by decide⟩, rfl, rfl, factory_ok, fun _ _ h => by cases h⟩

/-- StartupRecordAndArchiveInfo: the greatest fields, each one beyond, and a busy archive. -/
theorem witness_startupRecord :
    let good (list mode contrast attn : Byte) : Prop :=
      list.toNat ≤ 3 ∧ mode.toNat ≤ 3 ∧ contrast.toNat ≤ 15 ∧ attn.toNat ≤ 1
    Meets (.setStartup 0 4 3 15 0 1) quiet (fun _ => ¬good 4 3 15 1)
      ∧ Meets (.setStartup 0 3 4 15 0 1) quiet (fun _ => ¬good 3 4 15 1)
      ∧ Meets (.setStartup 0 3 3 16 0 1) quiet (fun _ => ¬good 3 3 16 1)
      ∧ Meets (.setStartup 0 3 3 15 0 2) quiet (fun _ => ¬good 3 3 15 2)
      ∧ Meets (.setStartup 0 3 3 15 0 1) (saving quiet) (fun s => good 3 3 15 1 ∧ s.archive.op ≠ .none)
      ∧ Meets (.setStartup 0 3 3 15 0xFFFF 1) quiet (fun s => (3 : Byte).toNat = (3 : Fin 4).val
        ∧ (3 : Byte).toNat = Mode.allClear.code ∧ good 3 3 15 1 ∧ s.archive.op = .none)
      ∧ Meets (.archiveInfo 0) quiet (fun _ => True) := by
  repeat' apply And.intro
  all_goals first | exact ⟨_, rfl, rfl⟩ | trivial

/-- StartsClearTheLiveState and RestartRunsThroughItsReply: RESETN low, a part that listens, and a HELD calendar under RESETN. -/
theorem witness_starts :
    let low := after .resetnFall (withCalendar (.held 1) leapEve quiet)
    low.phase = .resetHeld .resetn ∧ low.calendar.state = .held 1
      ∧ ((after .resetnFall quiet).phase = .resetHeld .resetn ∧ (after .resetnFall quiet).calendar.state = .invalid)
      ∧ quiet.phase = .listening := by decide

/-- StartupInstallsTheCurrentBank and StartedIsTheFirstReport: start-up with two unmarked banks, with each bank current, and with
CLOCK_LOST held aside. -/
theorem witness_startup :
    let start (x y : BankContent) := (withBanks x y quiet).clearLive (.starting .resetn)
    let aside := (start .unmarked .unmarked).offer .clockLost 1 0
    (start .unmarked .unmarked).phase = .starting .resetn
      ∧ (start (good 9) (good 8)).archive.bankA = .marked 9 Collections.factory true
      ∧ (start (good 8) (good 9)).archive.bankB = .marked 9 Collections.factory true
      ∧ (aside.phase = .starting .resetn ∧ aside.reports.aside = [⟨.clockLost, 1, 0, 1, none⟩])
      ∧ aside.ReportsOk ∧ aside.StartOk := by
  refine ⟨rfl, rfl, rfl, ⟨rfl, rfl⟩, ?_, ?_⟩
  · simp only [State.ReportsOk, recordsOk]; decide
  · refine fun _ => ⟨?_, ?_⟩
    · simp only [State.Cleared]; decide
    · decide

/-- A saved image with these pages, whose start list has the steps 99 and 20 and whose mask enables every kind. -/
def turning (ids : List Nat) : Collections :=
  { Collections.factory with
    pages := ids.map blankPage
    lists := Collections.factory.lists.set 0 ⟨[⟨99, 4⟩, ⟨20, 5⟩], false⟩
    startup := { Collections.factory.startup with mask := 0xFFFF } }

/-- StartupInstallsTheCurrentBank and StartedIsTheFirstReport: a start list whose second step names an installed page, and one with
none, each with CLOCK_LOST held aside. -/
theorem witness_startupReseat :
    let start (ids : List Nat) :=
      ((withBanks (.marked 9 (turning ids) true) .unmarked quiet).clearLive (.starting .resetn)).offer .clockLost 1 0
    let here (ids : List Nat) (id : Nat) : Prop := ∃ p ∈ (turning ids).pages, p.id = id
    ((turning [20]).lists[(turning [20]).startup.list].steps = [⟨99, 4⟩] ++ ⟨20, 5⟩ :: [] ∧ ¬here [20] 99 ∧ here [20] 20)
      ∧ (∀ step ∈ (turning [7]).lists[(turning [7]).startup.list].steps, ∀ p ∈ (turning [7]).pages, p.id ≠ step.page)
      ∧ ((start [20]).phase = .starting .resetn ∧ (start [20]).reports.aside.length ≤ 14
        ∧ (start [20]).stack.records = [] ∧ (start [20]).rotation.paused = false)
      ∧ (after .startupComplete (start [20])).rotation.seat = some ⟨1, 5⟩
      ∧ queued (after .startupComplete (start [20])) = [(.started, 2, 0), (.clockLost, 1, 0), (.selection, 20, 1)]
      ∧ queued (after .startupComplete (start [7])) = [(.started, 2, 0), (.clockLost, 1, 0), (.listStarved, 0, 0)] := by decide

/-- FieldsShowTheirSources: a VALUE binding shows the register it names. -/
theorem witness_valueSource :
    let b : Binding := ⟨.value, 7, 0, 1, false, 0⟩
    b.source = .value ∧ b.register = (7 : Fin 8).val
      ∧ b.showing ((Vector.replicate 8 (0 : Int)).set 7 5) quiet.calendar none = .value [.digit 5] := by decide

end Sys2Proof.Tests
end

section
/-! PROOFS. The law of the state taken apart into three: the laws of the blocks, the agreement of the selection, and the law of the
link over the tags it owes. Each operation is then shown to keep the part it touches. -/

namespace Sys2Proof.Machine

open Sys2Proof

/-! ## The parts of the law -/

/-- The laws of the blocks that do not rest on which pages are present elsewhere: every law of the state but those of the seat, the
stack, the selection, the link and the starts, with the live stored collections taken block by block (R129). -/
structure State.BaseOk (s : State) : Prop where
  glass : s.frame.glass.Ok
  table : cellTableOk s.cells.table
  pages : pagesOk s.cells.table s.store.pages
  lists : ∀ l ∈ s.rotation.lists.toList, l.Ok
  slots : ∀ x ∈ s.schedule.slots.toList, x.Ok
  startup : s.archive.startup.Ok
  drafts : s.DraftsOk
  values : s.cells.ValuesOk
  frame : s.frame.Ok
  calendar : s.calendar.Ok
  walk : s.schedule.WalkOk
  minute : s.MinuteOk
  archive : s.archive.Ok
  records : s.RecordsComplete
  reports : s.ReportsOk

/-- The laws of the blocks with the stack's records on present pages (R75). -/
structure State.StackedOk (s : State) : Prop extends s.BaseOk where
  stack : s.StackOk

/-- The laws of the blocks with the rotation seated where a page is present (R60). -/
structure State.BlocksOk (s : State) : Prop extends s.StackedOk where
  seat : s.SeatOk

/-- A page record without set latches is legal where the record is (R1). -/
theorem Page.Ok.unlatched {p : Page} (h : p.Ok) : p.unlatched.Ok :=
  let ⟨hid, hversion, hfields, _⟩ := h
  ⟨hid, hversion, hfields, fun i _ => by simp [Page.unlatched, clearLatches]⟩

/-- The archive's copy of a legal store is legal (R129). -/
theorem pagesOk.unlatched {table : Vector (Option Cell) 16} {pages : List Page} (h : pagesOk table pages) :
    pagesOk table (pages.map Page.unlatched) := by
  obtain ⟨hlength, hsorted, hall⟩ := h
  refine ⟨by simpa using hlength, ?_, ?_⟩
  · simpa [List.pairwise_map, Page.unlatched] using hsorted
  · intro q hq
    obtain ⟨p, hp, rfl⟩ := List.mem_map.mp hq
    exact ⟨(hall p hp).1.unlatched, (hall p hp).2⟩

/-- The copy of the live collections is legal where the blocks' laws hold (R129). -/
theorem State.BaseOk.snapshot {s : State} (h : s.BaseOk) : s.snapshot.Ok :=
  ⟨h.glass, h.table, h.pages.unlatched, h.lists, h.slots, h.startup⟩

/-- The laws of the blocks and the agreement of the selection (R88): what an owner's meaning keeps. -/
structure State.CoreOk (s : State) : Prop extends s.BlocksOk where
  selection : s.SelectionOk

/-- The tags of the deferred requests in progress: the commits and the archive operation (R165). -/
def State.debts (s : State) : List Byte := s.store.commits.map PendingCommit.tag ++ s.archive.op.tags

/-- The law of the link over the tags of the deferred requests (R158, R162, R163, R171). -/
structure Link.Ok (l : Link) (debts : List Byte) : Prop where
  receiver : l.receiver.Ok
  few : l.unanswered.length ≤ Config.maxUnanswered
  distinct : l.unanswered.Nodup
  owed : (l.inbox.map Request.tag ++ l.handed.toList.map Request.tag ++ debts).Perm l.unanswered
  tags : ∀ t ∈ l.unanswered, t.toNat ≤ 15
  requests : ∀ r ∈ l.inbox ++ l.handed.toList, requestOk r
  places : l.replies.length + debts.length + l.handed.toList.length ≤ Config.replyPlaces
  restarts : (l.replies.filter Reply.restarts).length + (if l.restartDue then 1 else 0) ≤ 1
  quiet : (l.restartDue || l.replies.any Reply.restarts) = true → l.handed = none

/-- An archive operation in progress is a deferred request (R165). -/
theorem ArchiveOp.tags_length (op : ArchiveOp) : op.tags.length = if op != .none then 1 else 0 := by
  cases op <;> rfl

/-- The reserved places are those of the deferred requests and of the request handed over (R163, R165). -/
theorem State.reservedPlaces_eq (s : State) : s.reservedPlaces = s.debts.length + s.link.handed.toList.length := by
  have hh : (if s.link.handed.isSome = true then 1 else 0) = s.link.handed.toList.length := by cases s.link.handed <;> rfl
  simp [State.reservedPlaces, State.debts, ArchiveOp.tags_length, State.archiveBusy, hh]

/-- The law of the link is a law of its state and of the tags of the deferred requests. -/
theorem State.linkOk_iff (s : State) : s.LinkOk ↔ s.link.Ok s.debts := by
  have howed : s.owedTags = s.link.inbox.map Request.tag ++ s.link.handed.toList.map Request.tag ++ s.debts := by
    simp [State.owedTags, State.debts]
  unfold State.LinkOk
  rw [howed, s.reservedPlaces_eq, ← Nat.add_assoc]
  constructor
  · rintro ⟨hreceiver, hfew, hdistinct, hp, htags, hrequests, hplaces, hrestarts, hquiet⟩
    exact ⟨hreceiver, hfew, hdistinct, hp, htags, hrequests, hplaces, hrestarts, hquiet⟩
  · rintro ⟨hreceiver, hfew, hdistinct, hp, htags, hrequests, hplaces, hrestarts, hquiet⟩
    exact ⟨hreceiver, hfew, hdistinct, hp, htags, hrequests, hplaces, hrestarts, hquiet⟩

/-- The law of the state from its parts. -/
theorem State.CoreOk.inv {s : State} (h : s.CoreOk) (hlink : s.link.Ok s.debts) (hstart : s.StartOk) : s.Inv :=
  { h with collections := ⟨h.snapshot, h.pages⟩, link := s.linkOk_iff.mpr hlink, start := hstart }

/-- The blocks' part of the law, with the selection. -/
theorem State.Inv.core {s : State} (h : s.Inv) : s.CoreOk :=
  let ⟨⟨hglass, htable, _, hlists, hslots, hstartup⟩, hpages⟩ := h.collections
  { h with glass := hglass, table := htable, pages := hpages, lists := hlists, slots := hslots, startup := hstartup }

/-- The link's part of the law. -/
theorem State.Inv.linkLaw {s : State} (h : s.Inv) : s.link.Ok s.debts := s.linkOk_iff.mp h.link

/-- The law of the starts says nothing of a part that listens. -/
theorem State.startOk_of_listening {s : State} (h : s.phase = .listening) : s.StartOk := fun hne => absurd h hne

/-! ## The law of the link -/

namespace Link.Ok

variable {l : Link} {debts : List Byte}

/-- The receiver changes its state (R158). -/
theorem receive (h : l.Ok debts) {r : Receiver} (hr : r.Ok) : Link.Ok { l with receiver := r } debts :=
  { h with receiver := hr }

/-- A request is accepted (R161). -/
theorem accept (h : l.Ok debts) {r : Request} (hr : requestOk r) (hnew : r.tag ∉ l.unanswered)
    (hroom : l.unanswered.length < Config.maxUnanswered) :
    Link.Ok { l with inbox := l.inbox ++ [r], unanswered := l.unanswered ++ [r.tag] } debts :=
  { h with
    few := by simpa using hroom
    distinct := by simpa [List.nodup_append] using ⟨h.distinct, fun a ha heq => hnew (heq ▸ ha)⟩
    owed := by
      have key : ((l.inbox ++ [r]).map Request.tag ++ l.handed.toList.map Request.tag ++ debts).Perm
          (r.tag :: (l.inbox.map Request.tag ++ l.handed.toList.map Request.tag ++ debts)) := by
        simp only [List.map_append, List.map_cons, List.map_nil, List.append_assoc, List.singleton_append]
        exact List.perm_middle
      exact key.trans ((h.owed.cons r.tag).trans (List.perm_append_comm (l₁ := [r.tag])))
    tags := fun t ht => (List.mem_append.mp ht).elim (h.tags t) fun ht => List.mem_singleton.mp ht ▸ hr.1
    requests := by
      intro q hq
      simp only [List.append_assoc, List.mem_append, List.mem_singleton] at hq
      rcases hq with hq | rfl | hq
      · exact h.requests q (List.mem_append_left _ hq)
      · exact hr
      · exact h.requests q (List.mem_append_right _ hq) }

/-- A reply that restarts nothing joins the queue in a free place (R163). -/
theorem refuse (h : l.Ok debts) {r : Reply} (hr : r.restarts = false)
    (hroom : l.replies.length + debts.length + l.handed.toList.length < Config.replyPlaces) :
    Link.Ok { l with replies := l.replies ++ [r] } debts :=
  { h with
    places := by simp only [List.length_append, List.length_singleton]; omega
    restarts := by simpa [List.filter_append, hr] using h.restarts
    quiet := by simpa [hr] using h.quiet }

/-- The oldest request is handed over (R164). -/
theorem handOff (h : l.Ok debts) {r : Request} {rest : List Request} (hin : l.inbox = r :: rest) (hnone : l.handed = none)
    (hroom : l.replies.length + debts.length < Config.replyPlaces)
    (hquiet : (l.restartDue || l.replies.any Reply.restarts) = false) :
    Link.Ok { l with inbox := rest, handed := some r } debts :=
  { h with
    owed := by
      have howed := h.owed
      simp only [hin, hnone, List.map_cons, Option.toList_none, List.map_nil, List.append_nil] at howed
      refine List.Perm.trans ?_ howed
      simp only [Option.toList_some, List.map_cons, List.map_nil, List.append_assoc, List.singleton_append]
      exact List.perm_middle
    requests := by
      intro q hq
      refine h.requests q ?_
      simp only [hin, hnone, Option.toList_none, List.append_nil]
      simpa [or_comm] using hq
    places := by simpa using hroom
    quiet := by simp [hquiet] }

/-- The request handed over is answered (R162, R164). -/
theorem answer (h : l.Ok debts) {q : Request} (hq : l.handed = some q) {r : Reply} (htag : r.tag = q.tag) :
    Link.Ok { l with handed := none, unanswered := l.unanswered.erase r.tag, replies := l.replies ++ [r] } debts := by
  have howed := h.owed
  have hplaces := h.places
  simp only [hq, Option.toList_some, List.map_cons, List.map_nil, List.append_assoc, List.singleton_append,
    List.length_singleton] at howed hplaces
  have hperm : (l.inbox.map Request.tag ++ debts).Perm (l.unanswered.erase r.tag) := by
    have := (List.perm_middle.symm.trans howed).erase r.tag
    simpa [htag] using this
  have hquiet : (l.restartDue || l.replies.any Reply.restarts) = false := by
    cases hc : l.restartDue || l.replies.any Reply.restarts
    · rfl
    · exact absurd (h.quiet hc) (by simp [hq])
  simp only [Bool.or_eq_false_iff, List.any_eq_false] at hquiet
  exact
    { h with
      few := Nat.le_trans (List.length_erase_le) h.few
      distinct := h.distinct.erase _
      owed := by simpa using hperm
      tags := fun t ht => h.tags t (List.mem_of_mem_erase ht)
      requests := fun x hx => h.requests x (by simpa using .inl (by simpa using hx))
      places := by simp only [List.length_append, List.length_singleton, Option.toList_none, List.length_nil]; omega
      restarts := by
        have hnil : l.replies.filter Reply.restarts = [] := List.filter_eq_nil_iff.mpr hquiet.2
        simp only [List.filter_append, hnil, hquiet.1]
        cases hr : r.restarts <;> simp [hr]
      quiet := fun _ => rfl }

/-- The request handed over becomes a deferred one (R165). -/
theorem defer (h : l.Ok debts) {q : Request} (hq : l.handed = some q) {debts' : List Byte}
    (hd : debts'.Perm (q.tag :: debts)) : Link.Ok { l with handed := none } debts' := by
  have howed := h.owed
  have hplaces := h.places
  have hlength := hd.length_eq
  simp only [hq, Option.toList_some, List.map_cons, List.map_nil, List.append_assoc, List.singleton_append,
    List.length_cons, List.length_nil] at howed hplaces hlength
  exact
    { h with
      owed := by simpa using (hd.append_left _).trans howed
      requests := fun x hx => h.requests x (by simpa using .inl (by simpa using hx))
      places := by simp only [Option.toList_none, List.length_nil]; omega
      quiet := fun _ => rfl }

/-- A deferred request is answered (R165). -/
theorem settle (h : l.Ok debts) {r : Reply} (hr : r.restarts = false) {debts' : List Byte}
    (hd : debts.Perm (r.tag :: debts')) :
    Link.Ok { l with unanswered := l.unanswered.erase r.tag, replies := l.replies ++ [r] } debts' := by
  have hplaces := h.places
  have hlength := hd.length_eq
  simp only [List.length_cons] at hlength
  have hperm : (l.inbox.map Request.tag ++ l.handed.toList.map Request.tag ++ debts').Perm (l.unanswered.erase r.tag) := by
    have := ((List.perm_middle.symm.trans (hd.symm.append_left _)).trans h.owed).erase r.tag
    simpa using this
  exact
    { h with
      few := Nat.le_trans (List.length_erase_le) h.few
      distinct := h.distinct.erase _
      owed := hperm
      tags := fun t ht => h.tags t (List.mem_of_mem_erase ht)
      places := by simp only [List.length_append, List.length_singleton]; omega
      restarts := by simpa [List.filter_append, hr] using h.restarts
      quiet := by simpa [hr] using h.quiet }

/-- The front reply has been transmitted (R168, R171). -/
theorem transmitted (h : l.Ok debts) {r : Reply} {rest : List Reply} (hr : l.replies = r :: rest) (hdue : l.restartDue = false)
    (frame : List Byte) :
    Link.Ok { l with replies := rest, lastFrame := frame, restartDue := r.restarts } debts :=
  { h with
    places := by
      have := h.places
      simp only [hr, List.length_cons] at this
      simp only
      omega
    restarts := by
      have := h.restarts
      simp only [hr, hdue] at this
      cases hc : r.restarts <;> simp_all
    quiet := by
      have := h.quiet
      simpa [hr, hdue] using this }

end Link.Ok

end Sys2Proof.Machine
end

section
/-! PROOFS. The report queue, the selection and the link's own happenings keep the law. -/

namespace Sys2Proof.Machine

open Sys2Proof

/-! ## The report queue -/

/-- A report about the kind and subject shares both. -/
theorem Report.about_iff {r : Report} {k : Kind} {subject : Nat} :
    r.about k subject = true ↔ r.kind = k ∧ r.subject = subject := by
  simp [Report.about]

/-- Coalescing keeps the law of the records: their kinds and subjects stand, and the counts saturate at 255 (R147). -/
theorem recordsOk.coalesce {records : List Report} (h : recordsOk records) (k : Kind) (subject detail n : Nat) :
    recordsOk (coalesce records k subject detail n) := by
  obtain ⟨hkeys, hcounts⟩ := h
  constructor
  · refine List.pairwise_map.mpr (hkeys.imp fun {a b} hab => ?_)
    have hsame (r : Report) (c : Bool) : (if c = true then r.fold detail n else r).kind = r.kind ∧
        (if c = true then r.fold detail n else r).subject = r.subject := by cases c <;> exact ⟨rfl, rfl⟩
    rw [(hsame a _).1, (hsame a _).2, (hsame b _).1, (hsame b _).2]
    exact hab
  · intro r hr
    obtain ⟨q, hq, rfl⟩ := List.mem_map.mp hr
    have := hcounts q hq
    split
    · simp only [Report.fold]; omega
    · exact this

/-- A record of a new kind and subject joins the others (R147 row 4). -/
theorem recordsOk.append {records : List Report} (h : recordsOk records) {r : Report}
    (hnew : records.any (·.about r.kind r.subject) = false) (hlow : 1 ≤ r.count) (hhigh : r.count ≤ 255) :
    recordsOk (records ++ [r]) := by
  constructor
  · refine List.pairwise_append.mpr ⟨h.1, List.pairwise_singleton _ _, fun a ha b hb => ?_⟩
    obtain rfl := List.mem_singleton.mp hb
    have := List.any_eq_false.mp hnew a ha
    rwa [Report.about_iff] at this
  · intro q hq
    rcases List.mem_append.mp hq with hq | hq
    · exact h.2 q hq
    · obtain rfl := List.mem_singleton.mp hq
      exact ⟨hlow, hhigh⟩

/-- The law of the queue's records: at most 16, all different, with counts in range (R146). -/
def ReportQueue.RecordsOk (q : ReportQueue) : Prop := q.records.length ≤ Config.maxReports ∧ recordsOk q.records

/-- ATTN is low exactly while a record stands and the enable is on (R153). -/
def ReportQueue.AttnOk (q : ReportQueue) : Prop := q.attnLow = (q.attnEnable && !q.records.isEmpty)

/-- A queue that has re-examined ATTN has it right (R153). -/
theorem ReportQueue.examineAttn_attnOk (q : ReportQueue) : q.examineAttn.AttnOk := rfl

/-- Settling reports keeps the law of the records (R147). -/
theorem ReportQueue.RecordsOk.settle {q : ReportQueue} (h : q.RecordsOk) (stamp : Option Stamp) (k : Kind)
    (subject detail : Nat) {n : Nat} (hlow : 1 ≤ n) (hhigh : n ≤ 255) : (q.settle stamp k subject detail n).RecordsOk := by
  rcases q.settle_cases stamp k subject detail n with ⟨_, he⟩ | ⟨_, _, he⟩ | ⟨_, _, _, he⟩ | ⟨_, hnew, hroom, he⟩ <;> rw [he]
  · exact h
  · exact ⟨by simpa using h.1, h.2.coalesce k subject detail n⟩
  · exact h
  · exact ⟨by simpa using hroom, h.2.append hnew hlow hhigh⟩

/-- Settling reports keeps ATTN right (R153). -/
theorem ReportQueue.AttnOk.settle {q : ReportQueue} (h : q.AttnOk) (stamp : Option Stamp) (k : Kind) (subject detail n : Nat) :
    (q.settle stamp k subject detail n).AttnOk := by
  rcases q.settle_cases stamp k subject detail n with ⟨_, he⟩ | ⟨_, _, he⟩ | ⟨_, _, _, he⟩ | ⟨_, _, _, he⟩ <;> rw [he]
  · exact h
  · have hempty : (coalesce q.records k subject detail n).isEmpty = q.records.isEmpty := by
      cases q.records <;> rfl
    exact h.trans (by rw [hempty])
  · exact h
  · exact ReportQueue.examineAttn_attnOk _

/-- Holding a report aside keeps the law of the records held aside (R155). -/
theorem ReportQueue.holdAside_ok {q : ReportQueue} (h : recordsOk q.aside) (k : Kind) (subject detail : Nat) :
    recordsOk (q.holdAside k subject detail).aside := by
  unfold ReportQueue.holdAside
  split
  · exact h.coalesce k subject detail 1
  · exact h.append (Bool.eq_false_iff.mpr ‹_›) (Nat.le_refl 1) (by decide : (1 : Nat) ≤ 255)

/-- The part listens or does not, as its phase says (R172). -/
theorem State.listening_iff {s : State} : s.listening = true ↔ s.phase = .listening := by
  simp [State.listening]

/-- Offering a report keeps the law of the report queue (R147, R155). -/
theorem State.ReportsOk.offerStamped {s : State} (h : s.ReportsOk) (stamp : Option Stamp) (k : Kind) (subject detail : Nat) :
    (s.offerStamped stamp k subject detail).ReportsOk := by
  obtain ⟨hlength, hrecords, haside, hattn, hempty⟩ := h
  by_cases hl : s.phase = .listening
  · have hreports : (s.offerStamped stamp k subject detail).reports = s.reports.settle stamp k subject detail 1 := by
      simp [State.offerStamped, State.listening_iff.mpr hl]
    have hq := ReportQueue.RecordsOk.settle ⟨hlength, hrecords⟩ stamp k subject detail (Nat.le_refl 1) (by decide)
    unfold State.ReportsOk
    rw [hreports]
    exact ⟨hq.1, hq.2, by simpa using haside,
      fun _ => ReportQueue.AttnOk.settle (hattn hl) stamp k subject detail 1, fun _ => by simpa using hempty hl⟩
  · have hreports : (s.offerStamped stamp k subject detail).reports = s.reports.holdAside k subject detail := by
      simp [State.offerStamped, State.listening, hl]
    have hsame : (s.reports.holdAside k subject detail).records = s.reports.records := by
      unfold ReportQueue.holdAside; split <;> rfl
    unfold State.ReportsOk
    rw [hreports, hsame, State.offerStamped_phase]
    exact ⟨hlength, hrecords, ReportQueue.holdAside_ok haside k subject detail, fun h => absurd h hl, fun h => absurd h hl⟩

/-- Offering a report keeps the laws of the blocks. -/
theorem State.BaseOk.offerStamped {s : State} (h : s.BaseOk) (stamp : Option Stamp) (k : Kind) (subject detail : Nat) :
    (s.offerStamped stamp k subject detail).BaseOk :=
  { h with reports := h.reports.offerStamped stamp k subject detail }

/-- See `State.BaseOk.offerStamped`. -/
theorem State.BaseOk.offer {s : State} (h : s.BaseOk) (k : Kind) (subject detail : Nat) : (s.offer k subject detail).BaseOk :=
  h.offerStamped _ k subject detail

/-- See `State.BaseOk.offerStamped`. -/
theorem State.StackedOk.offer {s : State} (h : s.StackedOk) (k : Kind) (subject detail : Nat) :
    (s.offer k subject detail).StackedOk :=
  { h.toBaseOk.offer k subject detail with stack := h.stack }

/-- See `State.BaseOk.offerStamped`. -/
theorem State.BlocksOk.offer {s : State} (h : s.BlocksOk) (k : Kind) (subject detail : Nat) : (s.offer k subject detail).BlocksOk :=
  { h.toStackedOk.offer k subject detail with seat := h.seat }

/-- Offering a report keeps the core of the law. -/
theorem State.CoreOk.offerStamped {s : State} (h : s.CoreOk) (stamp : Option Stamp) (k : Kind) (subject detail : Nat) :
    (s.offerStamped stamp k subject detail).CoreOk :=
  { h.toBaseOk.offerStamped stamp k subject detail with stack := h.stack, seat := h.seat, selection := h.selection }

/-- See `State.CoreOk.offerStamped`. -/
theorem State.CoreOk.offer {s : State} (h : s.CoreOk) (k : Kind) (subject detail : Nat) : (s.offer k subject detail).CoreOk :=
  h.offerStamped _ k subject detail

/-- The core of the law says nothing of the link, the owed ticks and the queue of commands. -/
theorem State.CoreOk.setLink {s : State} (h : s.CoreOk) (l : Link) : (s.setLink l).CoreOk := { h with }

/-- See `State.CoreOk.setLink`. -/
theorem State.CoreOk.setOwed {s : State} (h : s.CoreOk) (o : Owed) : (s.setOwed o).CoreOk := { h with }

/-- See `State.CoreOk.setLink`. -/
theorem State.CoreOk.setPending {s : State} (h : s.CoreOk) (cs : List Instr) : (s.setPending cs).CoreOk := { h with }

/-! ## The selection -/

/-- The laws of the blocks say nothing of the selection. -/
theorem State.BlocksOk.setSelection {s : State} (h : s.BlocksOk) (x : Selection) :
    (s.setStack { s.stack with selection := x }).BlocksOk := { h with }

/-- The selection's recomputation keeps the laws of the blocks and makes the selection right (R88, R89). -/
theorem State.BlocksOk.recompute {s : State} (h : s.BlocksOk) : s.recompute.CoreOk where
  toBlocksOk := by
    unfold State.recompute
    dsimp only
    split
    · exact h.setSelection _
    · exact (h.setSelection _).offer _ _ _
  selection := by simp [State.SelectionOk]

/-! ## The link's own happenings -/

/-- The core of the law and the law of the link, at a part that listens: what a happening of the link keeps. -/
structure State.ServingOk (s : State) : Prop extends s.CoreOk where
  phase : s.phase = .listening
  link : s.link.Ok s.debts

/-- A part that listens meets the law where its core and its link do. -/
theorem State.ServingOk.inv {s : State} (h : s.ServingOk) : s.Inv :=
  h.toCoreOk.inv h.link (State.startOk_of_listening h.phase)

/-- See `State.ServingOk.inv`. -/
theorem State.Inv.serving {s : State} (h : s.Inv) (hl : s.phase = .listening) : s.ServingOk :=
  { h.core with phase := hl, link := h.linkLaw }

/-- A change of the link alone keeps what a law of the link keeps. -/
theorem State.ServingOk.setLink {s : State} (h : s.ServingOk) {l : Link} (hl : l.Ok s.debts) : (s.setLink l).ServingOk :=
  { h.toCoreOk.setLink l with phase := h.phase, link := hl }

/-- Offering a report keeps the law of a part that listens. -/
theorem State.ServingOk.offer {s : State} (h : s.ServingOk) (k : Kind) (subject detail : Nat) :
    (s.offer k subject detail).ServingOk :=
  { h.toCoreOk.offer k subject detail with phase := h.phase, link := h.link }

/-- The receiver changes its state (R158). -/
theorem State.ServingOk.receive {s : State} (h : s.ServingOk) {r : Receiver} (hr : r.Ok) : (s.receive r).ServingOk :=
  h.setLink (h.link.receive hr)

/-- A place is free exactly when fewer than 8 are occupied or reserved (R163). -/
theorem State.freePlaces_pos {s : State} :
    0 < s.freePlaces ↔ s.link.replies.length + s.debts.length + s.link.handed.toList.length < Config.replyPlaces := by
  rw [State.freePlaces, s.reservedPlaces_eq]
  omega

/-- A refusal of the link keeps the law (R163). -/
theorem State.ServingOk.refuseFrame {s : State} (h : s.ServingOk) (tag : Byte) (result : Result) :
    (s.refuseFrame tag result).ServingOk := by
  unfold State.refuseFrame
  split
  · exact h.setLink (h.link.refuse rfl (State.freePlaces_pos.mp ‹_›))
  · exact h.offer _ _ _

/-- The link's checks of an intact frame keep the law (R161). -/
theorem State.ServingOk.checkRequest {s : State} (h : s.ServingOk) (r : Request) : (s.checkRequest r).ServingOk := by
  unfold State.checkRequest
  split
  · exact h.refuseFrame _ _
  rename_i htag
  split
  · exact h.refuseFrame _ _
  rename_i hnew
  split
  · exact h.refuseFrame _ _
  rename_i hroom
  split
  · exact h.refuseFrame _ _
  rename_i rule hrule
  split
  · exact h.setLink (h.link.accept ⟨Nat.le_of_not_lt htag, rule, hrule, ‹_›⟩ (by simpa using hnew) (Nat.lt_of_not_le hroom))
  · exact h.refuseFrame _ _

/-- The receiver takes a byte (R158). -/
theorem State.ServingOk.takeByte {s : State} (h : s.ServingOk) (b : Byte) : (s.takeByte b).ServingOk := by
  have hreceiver := h.link.receiver
  unfold State.takeByte
  rw [State.listening_iff.mpr h.phase, if_pos rfl]
  split
  · split
    · exact h.receive trivial
    · exact h
  · split
    · rename_i hlen
      exact h.receive ⟨hlen.1, hlen.2, by omega, by simp⟩
    · exact (h.receive (r := .hunt) trivial).offer _ _ _
  · rename_i len taken due heq
    rw [heq] at hreceiver
    obtain ⟨hlow, hhigh, hdue, hsum⟩ := hreceiver
    split
    · refine h.receive ⟨hlow, hhigh, by omega, ?_⟩
      simp only [List.length_append, List.length_singleton]
      omega
    · refine h.receive ⟨hlow, hhigh, ?_⟩
      simp only [List.length_append, List.length_singleton]
      omega
  · split
    · split
      · exact (h.receive (r := .hunt) trivial).checkRequest _
      · exact h.receive trivial
    · exact (h.receive (r := .hunt) trivial).offer _ _ _

/-- The receiver takes the bytes of a frame. -/
theorem State.ServingOk.takeBytes {s : State} (h : s.ServingOk) (bytes : List Byte) : (s.takeBytes bytes).ServingOk := by
  induction bytes generalizing s with
  | nil => exact h
  | cons b rest ih => exact ih (h.takeByte b)

/-- The conditions of a hand-off (R164). -/
theorem State.canHandOff_iff {s : State} :
    s.canHandOff = true ↔ s.link.handed = none ∧ 0 < s.freePlaces ∧ s.restartWaits = false := by
  simp [State.canHandOff, and_assoc]

/-- A hand-off keeps the law (R164). -/
theorem State.ServingOk.handOff {s : State} (h : s.ServingOk) : s.handOff.ServingOk := by
  rcases s.handOff_cases with ⟨r, rest, hin, hcan, he⟩ | ⟨_, he⟩ <;> rw [he]
  · obtain ⟨hnone, hfree, hquiet⟩ := State.canHandOff_iff.mp hcan
    have hroom := State.freePlaces_pos.mp hfree
    simp only [hnone, Option.toList_none, List.length_nil, Nat.add_zero] at hroom
    exact h.setLink (h.link.handOff hin hnone hroom hquiet)
  · exact h

/-! ## Requests -/

/-- What an owner makes of a request keeps the law: an OK reply leaves the tags of the deferred requests as they were, and a
deferred request adds its own (R164, R165). -/
def TakenOk (tag : Byte) (s : State) : Taken → Prop
  | .ok _ t => t.CoreOk ∧ t.phase = s.phase ∧ t.link = s.link ∧ t.debts = s.debts
  | .deferred t => t.CoreOk ∧ t.phase = s.phase ∧ t.link = s.link ∧ t.debts.Perm (tag :: s.debts)
  | .refused _ _ => True
  | .restart => True

/-- An owner that answers with its state unchanged keeps the law. -/
theorem TakenOk.unchanged {s : State} (h : s.CoreOk) (tag : Byte) (payload : List Byte) : TakenOk tag s (.ok payload s) :=
  ⟨h, rfl, rfl, rfl⟩

/-- A refusal keeps the law. -/
theorem TakenOk.no (tag : Byte) (s : State) (result : Result) : TakenOk tag s (.no result) := trivial

/-- An owner keeps the law: whenever it takes the request at a part that listens, with the core of the law. -/
def OwnerOk (r : Request) (owner : State → Taken) : Prop :=
  requestOk r → ∀ s : State, s.CoreOk → s.phase = .listening → TakenOk r.tag s (owner s)

/-- The taking of the request handed over keeps the law, where its owner does (R164). -/
theorem State.ServingOk.takeHanded {s : State} (h : s.ServingOk) {r : Request} (hr : s.link.handed = some r)
    {owner : State → Taken} (ho : OwnerOk r owner) : (s.takeHanded r.tag owner).ServingOk := by
  have hrequest : requestOk r := h.link.requests r (by simp [hr])
  have hcore : s.unhand.CoreOk := h.toCoreOk.setLink _
  have howner := ho hrequest s.unhand hcore h.phase
  have hrefused (reply : Reply) (htag : reply.tag = r.tag) : (s.unhand.reply reply).ServingOk :=
    h.setLink (h.link.answer hr htag)
  unfold State.takeHanded
  cases hc : owner s.unhand with
  | refused result payload => exact hrefused _ rfl
  | restart => exact hrefused _ rfl
  | ok payload t =>
    rw [hc] at howner
    obtain ⟨ht, hphase, hlink, hdebts⟩ := howner
    refine { ht.setLink _ with phase := hphase.trans h.phase, link := ?_ }
    have hanswer := h.link.answer hr (r := ⟨r.tag, .ok, payload, false⟩) rfl
    change Link.Ok (t.reply ⟨r.tag, .ok, payload, false⟩).link t.debts
    rw [State.reply_link, hlink, hdebts]
    exact hanswer
  | deferred t =>
    rw [hc] at howner
    obtain ⟨ht, hphase, hlink, hdebts⟩ := howner
    refine { ht with phase := hphase.trans h.phase, link := ?_ }
    change t.link.Ok t.debts
    rw [hlink]
    exact h.link.defer hr hdebts

/-- During a start the link is empty (R172). -/
theorem State.Inv.cleared {s : State} (h : s.Inv) (hl : s.phase ≠ .listening) : s.Cleared := (h.start hl).1

/-- A request command keeps the law, where its owner does (log entry 3). -/
theorem takeRequest_keeps {s : State} (h : s.Inv) {r : Request} {owner : State → Taken} (ho : OwnerOk r owner) :
    (takeRequest r owner s).Inv := by
  by_cases hl : s.phase = .listening
  · have hs := h.serving hl
    by_cases hr : s.link.handed = some r
    · simpa [takeRequest, hr] using (hs.takeHanded hr ho).inv
    · have hsent := hs.takeBytes r.frameBytes
      rw [takeRequest_sent hr]
      split
      · rename_i hcond
        obtain ⟨_, hin, hcan⟩ := hcond
        have hhanded : (s.takeBytes r.frameBytes).handOff.link.handed = some r := by
          simp [State.handOff, hin, hcan]
        exact (hsent.handOff.takeHanded hhanded ho).inv
      · exact hsent.inv
  · have hlistening : s.listening = false := by simpa [State.listening] using hl
    obtain ⟨-, -, -, -, -, -, -, -, -, -, -, -, -, -, hinbox, hhanded, -⟩ := h.cleared hl
    rw [takeRequest_sent (by simp [hhanded]), State.takeBytes_starting hlistening]
    simpa [hinbox] using h

end Sys2Proof.Machine
end

section
/-! PROOFS. The operations of the rotation and of the override stack keep the law (chapters 4 and 5). -/

namespace Sys2Proof.Machine

open Sys2Proof

/-! ## The rotation -/

/-- The seat on a step of a list. -/
theorem seatOn_eq {steps : List Step} {j : Nat} {step : Step} (h : steps[j]? = some step) :
    seatOn steps j = some ⟨j, step.dwell⟩ := by
  simp [seatOn, h]

/-- No step of a list names a present page where none is first (R62). -/
theorem State.firstStep_none {s : State} {steps : List Step} (h : s.firstStep steps = none) :
    ∀ step ∈ steps, s.present step.page = false := by
  intro step hstep
  obtain ⟨j, hj, rfl⟩ := List.mem_iff_getElem.mp hstep
  simpa [List.getElem?_eq_getElem hj] using List.find?_eq_none.mp h j (List.mem_range.mpr hj)

/-- An advance examines every index of the list (R67). -/
theorem mem_advanceOrder {k n j : Nat} : j ∈ advanceOrder k n ↔ j < n := by
  rw [advanceOrder, List.mem_append, or_comm, ← List.mem_append, List.take_append_drop, List.mem_range]

/-- No step of a list names a present page where none is next (R70). -/
theorem State.nextStep_none {s : State} {steps : List Step} {k : Nat} (h : s.nextStep steps k = none) :
    ∀ step ∈ steps, s.present step.page = false := by
  intro step hstep
  obtain ⟨j, hj, rfl⟩ := List.mem_iff_getElem.mp hstep
  simpa [List.getElem?_eq_getElem hj] using List.find?_eq_none.mp h j (mem_advanceOrder.mpr hj)

/-- Each rotation list is legal (R59). -/
theorem State.BaseOk.list {s : State} (h : s.BaseOk) (l : Fin 4) : (s.rotation.lists[l]).Ok :=
  h.lists _ (by simp [Vector.mem_toList_iff])

/-- A seat on a step of a legal list that names a present page meets the law of the seat (R60). -/
theorem State.seatOk_of_step {s : State} {x : Rotation} {j : Nat} {step : Step} (hlist : x.activeList.Ok)
    (hseat : x.seat = seatOn x.activeList.steps j) (hstep : x.activeList.steps[j]? = some step)
    (hpresent : s.present step.page = true) : (s.setRotation x).SeatOk := by
  have hdwell := (hlist.2 step (List.mem_of_getElem? hstep)).2
  unfold State.SeatOk
  rw [State.setRotation_rotation, hseat, seatOn_eq hstep]
  exact ⟨step, hstep, hpresent, hdwell.1, Nat.le_refl _⟩

/-- A rotation without a seat whose active list names no present page meets the law of the seat (R60). -/
theorem State.seatOk_of_none {s : State} {x : Rotation} (hseat : x.seat = none)
    (hnone : ∀ step ∈ x.activeList.steps, s.present step.page = false) : (s.setRotation x).SeatOk := by
  unfold State.SeatOk
  rw [State.setRotation_rotation, hseat]
  exact hnone

/-- A rotation that is seated right, over the same lists, meets the laws of the blocks (R60). -/
theorem State.StackedOk.setRotation {s : State} (h : s.StackedOk) {x : Rotation} (hlists : x.lists = s.rotation.lists)
    (hseat : (s.setRotation x).SeatOk) : (s.setRotation x).BlocksOk :=
  { h with lists := by rw [State.setRotation_rotation, hlists]; exact h.lists, seat := hseat }

/-- Re-seating seats the rotation right, whatever seat stood before (R62). -/
theorem State.StackedOk.reseat {s : State} (h : s.StackedOk) (l : Fin 4) : (s.reseat l).BlocksOk := by
  unfold State.reseat
  dsimp only
  split
  · rename_i j hj
    obtain ⟨step, hstep, hpresent⟩ := State.firstStep_spec hj
    exact h.setRotation rfl (State.seatOk_of_step (h.list l) rfl hstep hpresent)
  · rename_i hnone
    have hs := h.setRotation (x := { s.rotation with active := l, seat := none }) rfl
      (State.seatOk_of_none rfl (State.firstStep_none hnone))
    split
    · exact hs
    · exact hs.offer _ _ _

/-- See `State.StackedOk.reseat`. -/
theorem State.StackedOk.reseatAndOffer {s : State} (h : s.StackedOk) (l : Fin 4) : (s.reseatAndOffer l).CoreOk :=
  (h.reseat l).recompute

/-- The advance at the end of a dwell keeps the law (R67). -/
theorem State.CoreOk.advance {s : State} (h : s.CoreOk) (k : Nat) : (s.advance k).CoreOk := by
  unfold State.advance
  dsimp only
  split
  · exact h
  · rename_i j hj
    obtain ⟨step, hstep, hpresent⟩ := State.nextStep_spec hj
    have hs : (s.setRotation { s.rotation with seat := seatOn s.rotation.activeList.steps j }).BlocksOk :=
      h.setRotation rfl (State.seatOk_of_step (h.list s.rotation.active) rfl hstep hpresent)
    split
    · exact (hs.offer _ _ _).recompute
    · exact hs.recompute

/-- The rotation's part of a second tick keeps the law (R66). -/
theorem State.CoreOk.countDwell {s : State} (h : s.CoreOk) : s.countDwell.CoreOk := by
  unfold State.countDwell
  split
  · rename_i seat hseat hpaused
    split
    · rename_i hlong
      have hok := h.seat
      unfold State.SeatOk at hok
      rw [hseat] at hok
      obtain ⟨step, hstep, hpresent, _, hdwell⟩ := hok
      refine
        { h.setRotation (x := { s.rotation with seat := some { seat with remaining := seat.remaining - 1 } }) rfl ?_
          with selection := ?_ }
      · exact ⟨step, hstep, hpresent, by dsimp only; omega, by dsimp only; omega⟩
      · have hsel := h.selection
        unfold State.SelectionOk Rotation.currentPage at hsel ⊢
        simpa [hseat, Rotation.activeList] using hsel
    · exact h.advance _
  · exact h

/-- The rotation's pause flag is free (R69). -/
theorem State.CoreOk.setPaused {s : State} (h : s.CoreOk) (p : Bool) :
    (s.setRotation { s.rotation with paused := p }).CoreOk := { h with }

/-- The law of the seat but for one page, which may be gone already (R60, R70). -/
def State.SeatOkBut (s : State) (page : Nat) : Prop :=
  (∀ seat, s.rotation.seat = some seat →
    ∃ step, s.rotation.activeList.steps[seat.cursor]? = some step ∧ (step.page ≠ page → s.present step.page = true) ∧
      1 ≤ seat.remaining ∧ seat.remaining ≤ step.dwell) ∧
  (s.rotation.seat = none → ∀ step ∈ s.rotation.activeList.steps, s.present step.page = false)

/-- The law of the seat by its two cases (R60). -/
theorem State.seatOk_iff {s : State} :
    s.SeatOk ↔
      (∀ seat, s.rotation.seat = some seat →
        ∃ step, s.rotation.activeList.steps[seat.cursor]? = some step ∧ s.present step.page = true ∧
          1 ≤ seat.remaining ∧ seat.remaining ≤ step.dwell) ∧
      (s.rotation.seat = none → ∀ step ∈ s.rotation.activeList.steps, s.present step.page = false) := by
  unfold State.SeatOk
  cases s.rotation.seat <;> simp

/-- A rotation seated right stays so while its own state and the present pages stand (R60). -/
theorem State.SeatOk.congr {s t : State} (h : s.SeatOk) (hrotation : t.rotation = s.rotation)
    (hpresent : ∀ id, t.present id = s.present id) : t.SeatOk := by
  rw [State.seatOk_iff] at h ⊢
  simpa only [hrotation, hpresent] using h

/-- The rotation's reaction to a deleted page seats it right, where it was right but for that page (R70). -/
theorem State.SeatOkBut.rotationPageGone {s : State} {page : Nat} (h : s.SeatOkBut page) (hlist : s.rotation.activeList.Ok) :
    (s.rotationPageGone page).SeatOk := by
  obtain ⟨hsome, hnone⟩ := h
  unfold State.rotationPageGone
  split
  · rename_i hseat
    exact State.seatOk_iff.mpr ⟨by simp [hseat], hnone⟩
  · rename_i seat hseat
    obtain ⟨step, hstep, hpresent, hremaining⟩ := hsome seat hseat
    dsimp only
    split
    · split
      · rename_i j hj
        obtain ⟨next, hnext, hnextPresent⟩ := State.nextStep_spec hj
        exact State.seatOk_of_step hlist rfl hnext hnextPresent
      · rename_i hnext
        exact State.SeatOk.congr (State.seatOk_of_none (s := s) (x := { s.rotation with seat := none }) rfl
          (State.nextStep_none hnext)) rfl fun _ => rfl
    · rename_i hother
      have hne : step.page ≠ page := by simpa [hstep] using hother
      refine State.seatOk_iff.mpr ⟨fun x hx => ?_, by simp [hseat]⟩
      obtain rfl := Option.some.inj (hseat.symm.trans hx)
      exact ⟨step, hstep, hpresent hne, hremaining⟩

/-- The rotation's reaction to a deleted page keeps what the law says outside the rotation (R70). -/
theorem State.StackedOk.pageGone {s : State} (h : s.StackedOk) (page : Nat) : (s.rotationPageGone page).StackedOk := by
  unfold State.rotationPageGone
  split
  · exact h
  · dsimp only
    split
    · split
      · exact { h with lists := h.lists }
      · have hunseated : (s.setRotation { s.rotation with seat := none }).StackedOk := { h with lists := h.lists }
        exact hunseated.offer _ _ _
    · exact h

/-- See `State.SeatOkBut.rotationPageGone`. -/
theorem State.StackedOk.rotationPageGone {s : State} {page : Nat} (h : s.StackedOk) (hseat : s.SeatOkBut page) :
    (s.rotationPageGone page).BlocksOk :=
  { h.pageGone page with seat := hseat.rotationPageGone (h.list s.rotation.active) }

/-! ## The override stack -/

/-- OVERRIDE_ENDED for each record of a list keeps the laws of the blocks. -/
theorem State.StackedOk.offerEnded {s : State} (h : s.StackedOk) (detail : Nat) (gone : List Override) :
    (s.offerEnded detail gone).StackedOk := by
  induction gone generalizing s with
  | nil => exact h
  | cons o rest ih => exact ih (h.offer _ _ _)

/-- Records of different identities, legal and on present pages, may stand on the stack (R75). -/
theorem State.BaseOk.setRecords {s : State} (h : s.BaseOk) {records : List Override}
    (hlength : records.length ≤ Config.maxOverrides) (hids : (records.map Override.identity).Nodup)
    (hall : ∀ o ∈ records, o.Ok ∧ s.present o.page = true) :
    (s.setStack { s.stack with records := records }).StackedOk :=
  { h with stack := ⟨hlength, hids, hall⟩ }

/-- See `State.BaseOk.setRecords`. -/
theorem State.BlocksOk.setRecords {s : State} (h : s.BlocksOk) {records : List Override}
    (hlength : records.length ≤ Config.maxOverrides) (hids : (records.map Override.identity).Nodup)
    (hall : ∀ o ∈ records, o.Ok ∧ s.present o.page = true) :
    (s.setStack { s.stack with records := records }).BlocksOk :=
  { h.toBaseOk.setRecords hlength hids hall with seat := h.seat }

/-- Records that leave the stack make it right, where those that stay are (5.3). -/
theorem State.BaseOk.endOverrides {s : State} (h : s.BaseOk) {gone : Override → Bool} (detail : Nat)
    (hlength : s.stack.records.length ≤ Config.maxOverrides) (hids : (s.stack.records.map Override.identity).Nodup)
    (hstays : ∀ o ∈ s.stack.records, gone o = false → o.Ok ∧ s.present o.page = true) :
    (s.endOverrides gone detail).StackedOk := by
  refine State.StackedOk.offerEnded (h.setRecords ?_ ?_ fun o ho => ?_) _ _
  · exact Nat.le_trans (List.length_filter_le _ _) hlength
  · exact hids.sublist (List.filter_sublist.map _)
  · exact hstays o (List.mem_filter.mp ho).1 (by simpa using (List.mem_filter.mp ho).2)

/-- Presence is a matter of the records alone (R2). -/
theorem State.present_congr {s t : State} (h : t.store.pages = s.store.pages) (id : Nat) : t.present id = s.present id := by
  simp only [State.present, h]

/-- See `State.StackedOk.offerEnded`. -/
theorem State.BlocksOk.offerEnded {s : State} (h : s.BlocksOk) (detail : Nat) (gone : List Override) :
    (s.offerEnded detail gone).BlocksOk :=
  { h.toStackedOk.offerEnded detail gone with seat := h.seat.congr (by simp) (State.present_congr (by simp)) }

/-- Records that leave the stack keep the laws of the blocks (5.3). -/
theorem State.BlocksOk.endOverrides {s : State} (h : s.BlocksOk) (gone : Override → Bool) (detail : Nat) :
    (s.endOverrides gone detail).BlocksOk :=
  let ⟨hlength, hids, hall⟩ := h.stack
  { h.toBaseOk.endOverrides detail hlength hids fun o ho _ => hall o ho with
    seat := h.seat.congr (by simp) (State.present_congr (by simp)) }

/-- Asking for a record keeps the laws of the blocks, where the record is legal and its page present (R76 to R78). -/
theorem State.BlocksOk.admitRecord {s : State} (h : s.BlocksOk) {new : Override} (hnew : new.Ok)
    (hpresent : s.present new.page = true) : (s.admitRecord new).2.BlocksOk := by
  obtain ⟨hlength, hids, hall⟩ := h.stack
  have hkept {kept : List Override} (hsub : kept.Sublist s.stack.records) (hroom : kept.length < Config.maxOverrides)
      (hother : ∀ o ∈ kept, o.identity ≠ new.identity) :
      (s.setStack { s.stack with records := kept ++ [new] }).BlocksOk := by
    refine h.setRecords (by simpa using hroom) ?_ ?_
    · simpa [List.nodup_append] using ⟨hids.sublist (hsub.map _), hother⟩
    · intro o ho
      rcases List.mem_append.mp ho with ho | ho
      · exact hall o (hsub.subset ho)
      · exact List.mem_singleton.mp ho ▸ ⟨hnew, hpresent⟩
  unfold State.admitRecord
  dsimp only
  split
  · rename_i hany
    obtain ⟨old, hold, hsame⟩ := List.any_eq_true.mp hany
    refine hkept List.filter_sublist ?_ (fun o ho => by simpa using (List.mem_filter.mp ho).2)
    refine Nat.lt_of_lt_of_le (List.length_filter_lt_length_iff_exists.mpr ⟨old, hold, ?_⟩) hlength
    simpa using hsame
  rename_i hnone
  have hother : ∀ o ∈ s.stack.records, o.identity ≠ new.identity := by simpa using hnone
  split
  · exact hkept (List.Sublist.refl _) ‹_› hother
  split
  · split
    · rename_i victim hvictim
      have hmem := List.mem_of_find?_eq_some hvictim
      refine State.BlocksOk.offer (hkept List.erase_sublist ?_ fun o ho => hother o (List.mem_of_mem_erase ho)) _ _ _
      have hpos := List.length_pos_of_mem hmem
      rw [List.length_erase_of_mem hmem]
      omega
    · exact h
  · exact h

/-- A duration of two bytes is a legal remaining time (R76). -/
theorem readDuration_ok {d r : Nat} (hd : d ≤ 65535) (h : r ∈ readDuration d) : 1 ≤ r ∧ r ≤ 65535 := by
  unfold readDuration at h
  split at h
  · cases h
  · obtain rfl := Option.some.inj h
    omega

/-- The stack takes a SHOW hand-off of legal arguments (R79). -/
theorem State.CoreOk.takeShow {s : State} (h : s.CoreOk) {slot page priority duration : Nat} (hslot : slot ≤ 31)
    (haction : (Action.showPage page priority duration).Ok) : (s.takeShow slot page priority duration).CoreOk := by
  obtain ⟨hid, hlow, hhigh, hduration⟩ := haction
  unfold State.takeShow
  split
  · rename_i hpresent
    have hadmit := h.toBlocksOk.admitRecord (new := ⟨.schedule slot, page, priority, readDuration duration⟩)
      ⟨hid, hlow, hhigh, fun r hr => readDuration_ok hduration hr, hslot⟩ hpresent
    split
    · exact h.offer _ _ _
    · rename_i t _ heq
      rw [heq] at hadmit
      exact hadmit.recompute
  · exact h.offer _ _ _

/-- The stack takes a CLEAR_BELOW (R83). -/
theorem State.CoreOk.takeClearBelow {s : State} (h : s.CoreOk) (priority : Nat) : (s.takeClearBelow priority).CoreOk :=
  (h.toBlocksOk.endOverrides _ _).recompute

/-- A second less changes neither the record that is selected nor what it shows (R80, R88). -/
theorem topOverride_count (records : List Override) : topOverride (records.map Override.count) = (topOverride records).map Override.count := by
  induction records with
  | nil => rfl
  | cons o rest ih =>
    simp only [List.map_cons, topOverride, ih]
    cases topOverride rest with
    | none => rfl
    | some best => exact (apply_ite (Option.map Override.count) (best.priority < o.priority) (some o) (some best)).symm

/-- See `topOverride_count`. -/
theorem selectionOf_count (records : List Override) (offer : Option Nat) :
    selectionOf (records.map Override.count) offer = selectionOf records offer := by
  unfold selectionOf
  rw [topOverride_count]
  cases topOverride records <;> rfl

/-- The stack's part of a second tick keeps the law (R80). -/
theorem State.CoreOk.countOverrides {s : State} (h : s.CoreOk) : s.countOverrides.CoreOk := by
  obtain ⟨hlength, hids, hall⟩ := h.stack
  have hblocks : ((s.setStack { s.stack with
      records := (s.stack.records.filter (fun o => !o.expiring)).map Override.count }).offerEnded 1
        (s.stack.records.filter Override.expiring)).BlocksOk := by
    refine State.BlocksOk.offerEnded (h.setRecords ?_ ?_ ?_) _ _
    · simpa using Nat.le_trans (List.length_filter_le _ _) hlength
    · have hsame : Override.identity ∘ Override.count = Override.identity := rfl
      rw [List.map_map, hsame]
      exact hids.sublist (List.filter_sublist.map _)
    · intro o ho
      obtain ⟨p, hp, rfl⟩ := List.mem_map.mp ho
      obtain ⟨hmem, hstays⟩ := List.mem_filter.mp hp
      obtain ⟨⟨hid, hlow, hhigh, hremaining, hidentity⟩, hpresent⟩ := hall p hmem
      refine ⟨⟨hid, hlow, hhigh, ?_, hidentity⟩, hpresent⟩
      intro r hr
      obtain ⟨n, hn, rfl⟩ := Option.mem_map.mp hr
      have := hremaining n hn
      have hlong : ¬n ≤ 1 := by simpa [Override.expiring, Option.mem_def.mp hn] using hstays
      omega
  unfold State.countOverrides
  dsimp only
  split
  · rename_i hnone
    refine { hblocks with selection := ?_ }
    have hkept : s.stack.records.filter (fun o => !o.expiring) = s.stack.records := by
      refine List.filter_eq_self.mpr fun o ho => ?_
      have := List.filter_eq_nil_iff.mp (List.isEmpty_iff.mp hnone) o ho
      simpa using this
    have hsel := h.selection
    unfold State.SelectionOk at hsel ⊢
    simpa [hkept, selectionOf_count] using hsel
  · exact hblocks.recompute

end Sys2Proof.Machine
end

section
/-! PROOFS. The page store's operations keep the law: drafts, commits, and the records written and deleted (chapter 1). -/

namespace Sys2Proof.Machine

open Sys2Proof

/-! ## Drafts and pending commits -/

/-- What holds of every entry of a vector holds of each index. -/
theorem forall_mem_toList_iff {α : Type} {n : Nat} {v : Vector α n} {P : α → Prop} :
    (∀ x ∈ v.toList, P x) ↔ ∀ i : Fin n, P v[i] := by
  simp only [Vector.mem_toList_iff, Vector.mem_iff_getElem, Fin.getElem_fin]
  exact ⟨fun h i => h _ ⟨i.val, i.isLt, rfl⟩, fun h x ⟨i, hi, hx⟩ => hx ▸ h ⟨i, hi⟩⟩

/-- The law of the drafts and the pending-commit list by index, over the store, the cell table and whether the archive is busy
(R2, R3, R13, R25). -/
structure PageStore.DraftsOk (st : PageStore) (table : Vector (Option Cell) 16) (busy : Bool) : Prop where
  legal : ∀ d : Fin 2, st.drafts[d].Ok
  apart : ∀ d e : Fin 2, d ≠ e → ∀ id, st.drafts[d].target = some id → st.drafts[e].target ≠ some id
  distinct : (st.commits.map PendingCommit.draft).Nodup
  pending : ∀ d : Fin 2, st.drafts[d].isCommitting = true ↔ d ∈ st.commits.map PendingCommit.draft
  news : ∀ e ∈ st.commits, ∀ id, st.drafts[e.draft].target = some id → e.isNew = !st.pages.any (·.id == id)
  cells : ∀ d : Fin 2, st.drafts[d].CellsDefined table
  room : st.pages.length + st.pendingNew ≤ Config.maxPages
  idle : busy = true → st.commits = []

/-- Two options that agree only where they are absent, index by index. -/
theorem targets_apart_iff {t : Fin 2 → Option Nat} :
    (t 0 = t 1 → t 0 = none) ↔ ∀ d e : Fin 2, d ≠ e → ∀ id, t d = some id → t e ≠ some id := by
  constructor
  · intro h d e hne id hd he
    have hsame : t 0 = t 1 :=
      match d, e, hne, hd.trans he.symm with
      | 0, 0, hne, _ => absurd rfl hne
      | 0, 1, _, h => h
      | 1, 0, _, h => h.symm
      | 1, 1, hne, _ => absurd rfl hne
    have hnone : ∀ i : Fin 2, t i = none := Fin.forall_fin_two.mpr ⟨h hsame, hsame ▸ h hsame⟩
    simp [hnone d] at hd
  · intro h hsame
    cases h0 : t 0 with
    | none => rfl
    | some id => exact absurd (hsame ▸ h0) (h 0 1 (by decide) id h0)

/-- The law of the drafts is a law of the store, the cell table and the archive's business. -/
theorem State.draftsOk_iff (s : State) : s.DraftsOk ↔ s.store.DraftsOk s.cells.table s.archiveBusy := by
  unfold State.DraftsOk
  rw [forall_mem_toList_iff, forall_mem_toList_iff]
  have htargets := targets_apart_iff (t := fun d => s.store.drafts[d].target)
  constructor
  · rintro ⟨hlegal, hapart, hdistinct, hpending, hnews, hcells, hroom, hidle⟩
    exact ⟨hlegal, htargets.mp hapart, hdistinct, hpending, hnews, hcells, hroom, hidle⟩
  · rintro ⟨hlegal, hapart, hdistinct, hpending, hnews, hcells, hroom, hidle⟩
    exact ⟨hlegal, htargets.mpr hapart, hdistinct, hpending, hnews, hcells, hroom, hidle⟩

/-- A draft after one draft is written. -/
theorem PageStore.getElem_setDraft (st : PageStore) (d e : Fin 2) (x : Draft) :
    (st.setDraft d x).drafts[e] = if e = d then x else st.drafts[e] := by
  simp [PageStore.setDraft, Vector.getElem_set, Fin.ext_iff, eq_comm]

namespace PageStore.DraftsOk

variable {st : PageStore} {table : Vector (Option Cell) 16} {busy : Bool}

/-- A draft of an entry is COMMITTING, so another draft has no entry (R13). -/
theorem entry_committing (h : st.DraftsOk table busy) {e : PendingCommit} (he : e ∈ st.commits) :
    st.drafts[e.draft].isCommitting = true :=
  (h.pending e.draft).mpr (List.mem_map_of_mem he)

/-- A draft that is not COMMITTING is written by one that is not either, with a target no other draft has (R3, R6, R9, R11). -/
theorem setDraft (h : st.DraftsOk table busy) {d : Fin 2} {x : Draft} (hold : st.drafts[d].isCommitting = false)
    (hnew : x.isCommitting = false) (hlegal : x.Ok) (hcells : x.CellsDefined table)
    (htarget : ∀ id, x.target = some id → ∀ e : Fin 2, e ≠ d → st.drafts[e].target ≠ some id) :
    (st.setDraft d x).DraftsOk table busy :=
  { h with
    legal := by
      intro e
      rw [getElem_setDraft]
      split
      · exact hlegal
      · exact h.legal e
    apart := by
      intro e f hne id
      rw [getElem_setDraft, getElem_setDraft]
      split <;> split
      · rename_i he hf
        exact absurd (he.trans hf.symm) hne
      · rename_i hf
        exact fun hx => htarget id hx f hf
      · rename_i he _
        exact fun hx hy => htarget id hy e he hx
      · exact h.apart e f hne id
    pending := by
      intro e
      rw [getElem_setDraft]
      split
      · rename_i he
        rw [he, hnew, ← hold]
        exact h.pending d
      · exact h.pending e
    news := by
      intro e he id
      rw [getElem_setDraft, if_neg]
      · exact h.news e he id
      · rintro rfl
        have hc := h.entry_committing he
        rw [hold] at hc
        cases hc
    cells := by
      intro e
      rw [getElem_setDraft]
      split
      · exact hcells
      · exact h.cells e }

/-- A draft's content is written again (R4): its target stands. -/
theorem edit (h : st.DraftsOk table busy) {d : Fin 2} {body new : DraftBody} {idle n : Nat}
    (hd : st.drafts[d] = .editing body idle) (htarget : new.target = body.target) (hfields : new.fields.Ok)
    (hn : n < Config.draftIdleLimit) : (st.setDraft d (.editing new n)).DraftsOk table busy := by
  have hlegal := h.legal d
  rw [hd] at hlegal
  obtain ⟨hid, -, -⟩ := hlegal
  refine h.setDraft (by rw [hd]; rfl) rfl ⟨by rw [htarget]; exact hid, hfields, hn⟩ trivial fun id hx e hne => ?_
  exact h.apart d e hne.symm id (by rw [hd, ← hx]; exact congrArg some htarget.symm)

/-- A draft that is not COMMITTING becomes FREE (R9, R11, R140). -/
theorem release (h : st.DraftsOk table busy) {d : Fin 2} (hd : st.drafts[d].isCommitting = false) :
    (st.setDraft d .free).DraftsOk table busy :=
  h.setDraft hd rfl trivial trivial fun _ hx => nomatch hx

/-- An accepted COMMIT (R12, R13): the archive is idle, the cells are defined, and a new id has room. -/
theorem commit (h : st.DraftsOk table busy) {d : Fin 2} {body : DraftBody} {idle : Nat}
    (hd : st.drafts[d] = .editing body idle) (hcells : body.fields.CellsDefined table) (hidle : busy = false) {isNew : Bool}
    (hnew : isNew = !st.pages.any (·.id == body.target))
    (hroom : isNew = true → st.pages.length + st.pendingNew + 1 ≤ Config.maxPages) (tag : Byte) :
    PageStore.DraftsOk { st.setDraft d (.committing body) with commits := st.commits ++ [⟨d, isNew, tag⟩] } table busy := by
  have hget (e : Fin 2) : (st.setDraft d (.committing body)).drafts[e] = if e = d then .committing body else st.drafts[e] :=
    st.getElem_setDraft d e _
  have hlegal := h.legal d
  have hapart := h.apart d
  have hpending := h.pending d
  rw [hd] at hlegal hpending
  obtain ⟨hid, hfields, -⟩ := hlegal
  have hfresh : d ∉ st.commits.map PendingCommit.draft := fun hm => nomatch hpending.mpr hm
  have hbody : ∀ e : Fin 2, e ≠ d → st.drafts[e].target ≠ some body.target :=
    fun e hne => hapart e hne.symm _ (by rw [hd]; rfl)
  constructor
  · intro e
    rw [hget]
    split
    · exact ⟨hid, hfields⟩
    · exact h.legal e
  · intro e f hne id
    rw [hget, hget]
    split <;> split
    · rename_i he hf
      exact absurd (he.trans hf.symm) hne
    · rename_i hf
      rintro ⟨⟩
      exact hbody f hf
    · rename_i he _
      rintro hx ⟨⟩
      exact hbody e he hx
    · exact h.apart e f hne id
  · simpa [List.nodup_append] using ⟨h.distinct, by simpa using hfresh⟩
  · intro e
    rw [hget]
    split
    · rename_i he
      simp [Draft.isCommitting, he]
    · rename_i he
      rw [h.pending e]
      simp [he]
  · intro e he id
    rw [hget]
    rcases List.mem_append.mp he with he | he
    · have hne : e.draft ≠ d := fun hed => hfresh (hed ▸ List.mem_map_of_mem he)
      rw [if_neg hne]
      exact h.news e he id
    · obtain rfl := List.mem_singleton.mp he
      rw [if_pos rfl]
      rintro ⟨⟩
      exact hnew
  · intro e
    rw [hget]
    split
    · exact hcells
    · exact h.cells e
  · have hcount : PageStore.pendingNew { st.setDraft d (.committing body) with commits := st.commits ++ [⟨d, isNew, tag⟩] } =
        st.pendingNew + if isNew then 1 else 0 := by
      cases isNew <;> simp [PageStore.pendingNew]
    rw [hcount]
    have := h.room
    cases hn : isNew
    · exact this
    · exact hroom hn
  · intro hb
    rw [hidle] at hb
    cases hb

/-- Records that no pending commit names may go, and records may be written over: the present pages stand for the targets of the
pending commits (R14, R18). -/
theorem setPages (h : st.DraftsOk table busy) {pages : List Page} (hlength : pages.length ≤ st.pages.length)
    (hnews : ∀ e ∈ st.commits, ∀ id, st.drafts[e.draft].target = some id →
      pages.any (·.id == id) = st.pages.any (·.id == id)) :
    PageStore.DraftsOk { st with pages := pages } table busy :=
  { h with
    news := fun e he id hid => (h.news e he id hid).trans (congrArg Bool.not (hnews e he id hid).symm)
    room := Nat.le_trans (Nat.add_le_add_right hlength _) h.room }

/-- With no pending commit the archive may begin or end an operation (R134, R138). -/
theorem setBusy (h : st.DraftsOk table busy) (hnone : st.commits = []) (busy' : Bool) : st.DraftsOk table busy' :=
  { h with idle := fun _ => hnone }

/-- The archive's operation ends (R137, R140). -/
theorem setIdle (h : st.DraftsOk table busy) : st.DraftsOk table false := { h with idle := fun hb => nomatch hb }

end PageStore.DraftsOk

/-! ## Page records -/

/-- The presence of a page by membership (R2). -/
theorem any_id_iff {pages : List Page} {id : Nat} : pages.any (·.id == id) = true ↔ ∃ p ∈ pages, p.id = id := by
  simp

/-- A page is present exactly when its record is found (R2). -/
theorem State.present_iff {s : State} {id : Nat} : s.present id = true ↔ ∃ p, s.findPage id = some p := by
  unfold State.present State.findPage
  rw [← Option.isSome_iff_exists, List.find?_isSome]
  simp

/-- A record that is found stands in the store under its id (R2). -/
theorem State.findPage_spec {s : State} {id : Nat} {p : Page} (h : s.findPage id = some p) : p ∈ s.store.pages ∧ p.id = id :=
  ⟨List.mem_of_find?_eq_some h, by simpa using List.find?_some h⟩

/-- A page written is present, beside those that were (R1). -/
theorem any_putPage {p : Page} {pages : List Page} {id : Nat} :
    (putPage p pages).any (·.id == id) = (p.id == id || pages.any (·.id == id)) := by
  induction pages with
  | nil => simp [putPage]
  | cons q rest ih =>
    unfold putPage
    split
    · simp
    · split
      · rename_i heq
        simp [heq]
      · simp only [List.any_cons, ih]
        cases q.id == id <;> cases p.id == id <;> rfl

/-- A record takes the place of the one with its id, or a place of its own (R1, R2). -/
theorem putPage_length {p : Page} {pages : List Page} (hsorted : pages.Pairwise (·.id < ·.id)) :
    (putPage p pages).length = pages.length + if pages.any (·.id == p.id) then 0 else 1 := by
  induction pages with
  | nil => rfl
  | cons q rest ih =>
    obtain ⟨hq, hrest⟩ := List.pairwise_cons.mp hsorted
    unfold putPage
    split
    · rename_i hlt
      have hnone : (q :: rest).any (·.id == p.id) = false := by
        simp only [List.any_cons, Bool.or_eq_false_iff, beq_eq_false_iff_ne, List.any_eq_false, beq_iff_eq]
        exact ⟨by omega, fun x hx => by have := hq x hx; omega⟩
      simp [hnone]
    · split
      · rename_i heq
        simp [heq]
      · rename_i hne
        have hskip : (q.id == p.id) = false := by simpa using Ne.symm hne
        simp only [List.length_cons, ih hrest, List.any_cons, hskip, Bool.false_or]
        omega

/-- A legal record that binds defined cells alone may be written where there is room (R1, R2, R14). -/
theorem pagesOk.putPage {table : Vector (Option Cell) 16} {pages : List Page} (h : pagesOk table pages) {p : Page} (hp : p.Ok)
    (hcells : p.fields.CellsDefined table)
    (hroom : pages.any (·.id == p.id) = false → pages.length + 1 ≤ Config.maxPages) :
    pagesOk table (putPage p pages) := by
  obtain ⟨hlength, hsorted, hall⟩ := h
  refine ⟨?_, putPage_sorted hsorted, fun q hq => ?_⟩
  · rw [putPage_length hsorted]
    cases hc : pages.any (·.id == p.id)
    · exact hroom hc
    · exact hlength
  · rcases mem_putPage hq with rfl | hq
    · exact ⟨hp, hcells⟩
    · exact hall q hq

/-- Records may go (R18). -/
theorem pagesOk.filter {table : Vector (Option Cell) 16} {pages : List Page} (h : pagesOk table pages) (keep : Page → Bool) :
    pagesOk table (pages.filter keep) :=
  let ⟨hlength, hsorted, hall⟩ := h
  ⟨Nat.le_trans (List.length_filter_le _ _) hlength, hsorted.sublist List.filter_sublist,
    fun p hp => hall p (List.mem_filter.mp hp).1⟩

/-- The law of the drafts by index. -/
theorem State.BaseOk.draftLaw {s : State} (h : s.BaseOk) : s.store.DraftsOk s.cells.table s.archiveBusy :=
  s.draftsOk_iff.mp h.drafts

/-- The laws of the blocks once the store alone has changed. -/
theorem State.BaseOk.setStore {s : State} (h : s.BaseOk) {x : PageStore} (hpages : pagesOk s.cells.table x.pages)
    (hdrafts : x.DraftsOk s.cells.table s.archiveBusy) : (s.setStore x).BaseOk :=
  { h with pages := hpages, drafts := (State.draftsOk_iff _).mpr hdrafts }

/-- The stack stays right while no page goes (R75). -/
theorem State.StackOk.mono {s t : State} (h : s.StackOk) (hrecords : t.stack.records = s.stack.records)
    (hpresent : ∀ id, s.present id = true → t.present id = true) : t.StackOk := by
  obtain ⟨hlength, hids, hall⟩ := h
  unfold State.StackOk
  rw [hrecords]
  exact ⟨hlength, hids, fun o ho => ⟨(hall o ho).1, hpresent _ (hall o ho).2⟩⟩

/-- The selection stays right while the stack and the rotation stand (R88). -/
theorem State.SelectionOk.congr {s t : State} (h : s.SelectionOk) (hstack : t.stack = s.stack)
    (hrotation : t.rotation = s.rotation) : t.SelectionOk := by
  unfold State.SelectionOk at h ⊢
  rw [hstack, hrotation]
  exact h

/-- The law once the store has changed and the same pages are present (R3, R4). -/
theorem State.CoreOk.setStore {s : State} (h : s.CoreOk) {x : PageStore} (hpages : pagesOk s.cells.table x.pages)
    (hdrafts : x.DraftsOk s.cells.table s.archiveBusy) (hpresent : ∀ id, (s.setStore x).present id = s.present id) :
    (s.setStore x).CoreOk :=
  { h.toBaseOk.setStore hpages hdrafts with
    stack := h.stack.mono rfl fun id hid => (hpresent id).trans hid
    seat := h.seat.congr rfl hpresent
    selection := h.selection }

/-- The law once the drafts or the pending commits have changed (R3, R4). -/
theorem State.CoreOk.setDrafts {s : State} (h : s.CoreOk) {x : PageStore} (hpages : x.pages = s.store.pages)
    (hdrafts : x.DraftsOk s.cells.table s.archiveBusy) : (s.setStore x).CoreOk :=
  h.setStore (hpages ▸ h.pages) hdrafts (State.present_congr hpages)

/-- The law once a draft has changed (R3, R4). -/
theorem State.CoreOk.setDraft {s : State} (h : s.CoreOk) {d : Fin 2} {x : Draft}
    (hdrafts : (s.store.setDraft d x).DraftsOk s.cells.table s.archiveBusy) : (s.setStore (s.store.setDraft d x)).CoreOk :=
  h.setDrafts rfl hdrafts

/-- The dirty flag is free of the law (R132). -/
theorem State.CoreOk.markDirty {s : State} (h : s.CoreOk) : s.markDirty.CoreOk := { h with }

/-- See `State.CoreOk.markDirty`. -/
theorem State.BaseOk.markDirty {s : State} (h : s.BaseOk) : s.markDirty.BaseOk := { h with }

end Sys2Proof.Machine
end

section
/-! PROOFS. Each request of the page store, with its reading of the payload, keeps the law (chapter 1). -/

namespace Sys2Proof.Machine

open Sys2Proof

/-- A meaning keeps the law: from every state that meets it the next state meets it. -/
def KeepsLaw (meaning : State → Host.Outcome State Fault Refusal) : Prop :=
  ∀ s t : State, s.Inv → meaning s = .next t → t.Inv

/-- A meaning that answers the next state of an operation keeps the law where the operation does. -/
theorem keepsLaw_of_next {op : State → State} (h : ∀ s : State, s.Inv → (op s).Inv) : KeepsLaw fun s => .next (op s) := by
  rintro s t hs ⟨⟩
  exact h s hs

/-- A request keeps the law where its owner does. -/
theorem keepsLaw_of_owner {r : Request} {owner : State → Taken} (h : OwnerOk r owner) :
    KeepsLaw fun s => .next (takeRequest r owner s) :=
  keepsLaw_of_next fun _ hs => takeRequest_keeps hs h

/-- A request that only reads keeps the law. -/
theorem keepsLaw_of_read {r : Request} (payload : State → List Byte) :
    KeepsLaw fun s => .next (takeRequest r (fun s => .ok (payload s) s) s) :=
  keepsLaw_of_owner fun _ _ hs _ => .unchanged hs _ _

/-! ## Reading payload bytes -/

/-- A page id that is read is legal (R1). -/
theorem readPageId_spec {b : Byte} {id : Nat} (h : readPageId b = some id) : id = b.toNat ∧ idOk id := by
  unfold readPageId at h
  split at h
  · obtain rfl := Option.some.inj h
    exact ⟨rfl, ‹_›⟩
  · cases h

/-- A binding that is read is legal (R30, R31). -/
theorem readBinding_ok {source register first count options : Byte} {b : Binding}
    (h : readBinding source register first count options = some b) : b.Ok := by
  unfold readBinding at h
  split at h
  · cases h
  · dsimp only at h
    split at h
    · rename_i src _ hgood
      obtain ⟨-, hlow, hhigh, hfit, hfour, hregister, hzero, hpoint⟩ := hgood
      obtain rfl := Option.some.inj h
      refine ⟨hlow, hhigh, hfit, ?_, hpoint, fun hne => ⟨hfour hne, hzero hne⟩⟩
      by_cases hv : src = .value
      · exact hregister hv
      · exact Nat.le_trans (Nat.le_of_eq (hzero hv)) (Nat.zero_le 7)
    · cases h

/-- The bindings of a field list by index (R1). -/
theorem FieldList.mem_bound {f : FieldList} {b : Binding} : b ∈ f.bound ↔ ∃ i : Fin 4, f[i] = some b := by
  simp only [FieldList.bound, List.mem_filterMap, Vector.mem_toList_iff, Vector.mem_iff_getElem, id, Fin.getElem_fin]
  constructor
  · rintro ⟨x, ⟨i, hi, hx⟩, rfl⟩
    exact ⟨⟨i, hi⟩, hx⟩
  · rintro ⟨i, hi⟩
    exact ⟨_, ⟨i.val, i.isLt, rfl⟩, hi⟩

/-- A field list with no index bound is legal. -/
theorem FieldList.unused_ok : FieldList.unused.Ok := by
  intro b hb
  obtain ⟨i, hi⟩ := FieldList.mem_bound.mp hb
  simp [FieldList.unused] at hi

/-- One index of a legal field list is written (R31, R32). -/
theorem FieldList.Ok.set {f : FieldList} (h : f.Ok) (i : Fin 4) {x : Option Binding} (hx : ∀ b, x = some b → b.Ok) :
    FieldList.Ok (f.set i x) := by
  intro b hb
  obtain ⟨j, hj⟩ := FieldList.mem_bound.mp hb
  rw [Fin.getElem_fin, Vector.getElem_set] at hj
  split at hj
  · exact hx b hj
  · exact h b (FieldList.mem_bound.mpr ⟨j, hj⟩)

/-! ## The draft requests -/

/-- The draft checks of R4 refuse, and what is done with an open draft keeps the law. -/
theorem TakenOk.withDraft {tag : Byte} {s : State} (draft : Byte) {act : Fin 2 → DraftBody → Taken}
    (hact : ∀ d body idle, s.store.drafts[d] = .editing body idle → TakenOk tag s (act d body)) :
    TakenOk tag s (s.withDraft draft act) := by
  unfold State.withDraft
  split
  · trivial
  · split
    · trivial
    · trivial
    · exact hact _ _ _ ‹_›

/-- An accepted edit keeps the law (R4). -/
theorem TakenOk.editDraft {tag : Byte} {s : State} (h : s.CoreOk) {d : Fin 2} {body new : DraftBody} {idle : Nat}
    (hd : s.store.drafts[d] = .editing body idle) (htarget : new.target = body.target) (hfields : new.fields.Ok) :
    TakenOk tag s (s.editDraft d new) :=
  ⟨(h.setDraft (h.draftLaw.edit hd htarget hfields (by decide : 0 < Config.draftIdleLimit))).markDirty, rfl, rfl, rfl⟩

/-- The field list of an open draft is legal (R3). -/
theorem State.BaseOk.editing_fields {s : State} (h : s.BaseOk) {d : Fin 2} {body : DraftBody} {idle : Nat}
    (hd : s.store.drafts[d] = .editing body idle) : idOk body.target ∧ body.fields.Ok := by
  have hlegal := h.draftLaw.legal d
  rw [hd] at hlegal
  exact ⟨hlegal.1, hlegal.2.1⟩

/-- A stored page is legal (R1). -/
theorem State.BaseOk.pageOk {s : State} (h : s.BaseOk) {id : Nat} {p : Page} (hp : s.findPage id = some p) :
    p.Ok ∧ p.fields.CellsDefined s.cells.table :=
  h.pages.2.2 p (State.findPage_spec hp).1

/-- The content a draft is opened with has the target asked for and a legal field list (R6). -/
theorem State.BaseOk.draftBase {s : State} (h : s.BaseOk) {id : Nat} {copy : Bool} {body : DraftBody}
    (hb : s.draftBase id copy = some body) : body.target = id ∧ body.fields.Ok := by
  unfold State.draftBase at hb
  split at hb
  · obtain ⟨p, hp, rfl⟩ := Option.map_eq_some_iff.mp hb
    exact ⟨(State.findPage_spec hp).2, (h.pageOk hp).1.2.2.1⟩
  · obtain rfl := Option.some.inj hb
    exact ⟨rfl, FieldList.unused_ok⟩

/-- The slot that is opened is FREE (R6). -/
theorem PageStore.freeDraft_spec {st : PageStore} {d : Fin 2} (h : st.freeDraft = some d) : st.drafts[d] = .free := by
  unfold PageStore.freeDraft at h
  split at h
  · obtain rfl := Option.some.inj h
    assumption
  · split at h
    · obtain rfl := Option.some.inj h
      assumption
    · cases h

/-- OPEN_DRAFT keeps the law (R5, R6). -/
theorem execOpenDraft_keeps (tag page base : Byte) : KeepsLaw (execOpenDraft tag page base) :=
  keepsLaw_of_owner fun _ s h _ => by
    dsimp only
    split
    · rename_i id copy hid _
      split
      · trivial
      split
      · trivial
      rename_i hunnamed
      split
      · trivial
      rename_i d hfree
      split
      · trivial
      rename_i body hbase
      obtain ⟨htarget, hfields⟩ := h.draftBase hbase
      have hold := PageStore.freeDraft_spec hfree
      have hother := forall_mem_toList_iff.mp (List.any_eq_false.mp (Bool.eq_false_iff.mpr hunnamed))
      refine ⟨h.setDraft (h.draftLaw.setDraft (by rw [hold]; rfl) rfl ?_ trivial ?_), rfl, rfl, rfl⟩
      · exact ⟨htarget ▸ (readPageId_spec hid).2, hfields, by decide⟩
      · rintro x ⟨⟩ e _
        rw [htarget]
        simpa using hother e
    · trivial

/-- WRITE_DOTS keeps the law (R7). -/
theorem execWriteDots_keeps (tag draft offset : Byte) (bytes : List Byte) : KeepsLaw (execWriteDots tag draft offset bytes) :=
  keepsLaw_of_owner fun _ s h _ => by
    refine TakenOk.withDraft draft fun d body idle hd => ?_
    split
    · trivial
    · exact TakenOk.editDraft h hd rfl (h.editing_fields hd).2

/-- WRITE_BLINK keeps the law (R8). -/
theorem execWriteBlink_keeps (tag draft offset : Byte) (bytes : List Byte) : KeepsLaw (execWriteBlink tag draft offset bytes) :=
  keepsLaw_of_owner fun _ s h _ => by
    refine TakenOk.withDraft draft fun d body idle hd => ?_
    split
    · exact TakenOk.editDraft h hd rfl (h.editing_fields hd).2
    · trivial

/-- BIND_FIELD keeps the law (R31). -/
theorem execBindField_keeps (tag draft index source register first count options : Byte) :
    KeepsLaw (execBindField tag draft index source register first count options) :=
  keepsLaw_of_owner fun _ s h _ => by
    refine TakenOk.withDraft draft fun d body idle hd => ?_
    split
    · rename_i hb
      refine TakenOk.editDraft h hd rfl ((h.editing_fields hd).2.set _ ?_)
      rintro _ ⟨⟩
      exact readBinding_ok hb
    · trivial

/-- UNBIND_FIELD keeps the law (R32). -/
theorem execUnbindField_keeps (tag draft index : Byte) : KeepsLaw (execUnbindField tag draft index) :=
  keepsLaw_of_owner fun _ s h _ => by
    refine TakenOk.withDraft draft fun d body idle hd => ?_
    split
    · exact TakenOk.editDraft h hd rfl ((h.editing_fields hd).2.set _ fun _ hb => nomatch hb)
    · trivial

/-- COMMIT keeps the law (R12, R13). -/
theorem execCommit_keeps (tag draft : Byte) : KeepsLaw (execCommit tag draft) :=
  keepsLaw_of_owner fun _ s h _ => by
    refine TakenOk.withDraft draft fun d body idle hd => ?_
    split
    · trivial
    rename_i hcells
    dsimp only
    split
    · trivial
    rename_i hroom
    split
    · trivial
    rename_i hidle
    refine ⟨h.setDrafts rfl (h.draftLaw.commit hd hcells (Bool.eq_false_iff.mpr hidle) rfl ?_ tag), rfl, rfl, ?_⟩
    · intro hnew
      exact Nat.le_of_not_lt fun hfull => hroom ⟨hnew, hfull⟩
    · simp [State.debts]

/-- ABANDON keeps the law (R11). -/
theorem execAbandon_keeps (tag draft : Byte) : KeepsLaw (execAbandon tag draft) :=
  keepsLaw_of_owner fun _ s h _ =>
    TakenOk.withDraft draft fun _ _ _ hd => ⟨h.setDraft (h.draftLaw.release (by rw [hd]; rfl)), rfl, rfl, rfl⟩

/-- LIST_PAGES keeps the law (R21). -/
theorem execListPages_keeps (tag : Byte) : KeepsLaw (execListPages tag) := keepsLaw_of_read _

/-- READ_PAGE keeps the law (R22, R23). -/
theorem execReadPage_keeps (tag page part offset : Byte) : KeepsLaw (execReadPage tag page part offset) :=
  keepsLaw_of_owner fun _ s h _ => by
    dsimp only
    split
    · trivial
    split
    · trivial
    split
    · trivial
    · exact .unchanged h _ _

/-! ## The deletion of a page -/

/-- The records that a deletion leaves (R18). -/
theorem any_filter_id {pages : List Page} {id other : Nat} :
    (pages.filter (·.id != id)).any (·.id == other) = (other != id && pages.any (·.id == other)) := by
  rw [Bool.eq_iff_iff]
  simp only [List.any_filter, List.any_eq_true, Bool.and_eq_true, bne_iff_ne, beq_iff_eq]
  constructor
  · rintro ⟨p, hp, hne, rfl⟩
    exact ⟨hne, p, hp, rfl⟩
  · rintro ⟨hne, p, hp, rfl⟩
    exact ⟨p, hp, hne, rfl⟩

/-- The store and the stack without a page, before the rotation has reacted to its notice (R19, R82). -/
def State.sweepPage (s : State) (id : Nat) : State :=
  (s.setStore { s.store with pages := s.store.pages.filter (·.id != id) }).markDirty.endOverrides (·.page == id) 3

/-- The removal of a page is the sweep with the rotation's reaction and the selection's recomputation (R19). -/
theorem State.removePage_eq (s : State) (id : Nat) : s.removePage id = ((s.sweepPage id).rotationPageGone id).recompute := rfl

@[simp] theorem State.sweepPage_rotation (s : State) (id : Nat) : (s.sweepPage id).rotation = s.rotation := by
  simp [State.sweepPage, State.markDirty]

@[simp] theorem State.sweepPage_store (s : State) (id : Nat) :
    (s.sweepPage id).store = { s.store with pages := s.store.pages.filter (·.id != id) } := by
  simp [State.sweepPage, State.markDirty]

/-- After the sweep every other page is present as before (R19). -/
theorem State.present_sweepPage (s : State) (id other : Nat) :
    (s.sweepPage id).present other = (other != id && s.present other) := by
  rw [State.present, State.sweepPage_store]
  exact any_filter_id

/-- A pending commit's draft names no page that no pending commit names (R18 order 3). -/
theorem PageStore.pendingNames_spec {st : PageStore} {id : Nat} (h : st.pendingNames id = false) {d : Fin 2}
    (hd : st.drafts[d].isCommitting = true) : st.drafts[d].target ≠ some id := by
  have hno := forall_mem_toList_iff.mp (List.any_eq_false.mp h) d
  cases hx : st.drafts[d] with
  | free => rw [hx] at hd; cases hd
  | editing b n => rw [hx] at hd; cases hd
  | committing b =>
    rw [hx] at hno
    simpa [Draft.target] using hno

/-- The sweep of a page that no pending commit names keeps the laws of the blocks but for the seat (R18, R82). -/
theorem State.CoreOk.sweepPage {s : State} (h : s.CoreOk) {id : Nat} (hfree : s.store.pendingNames id = false) :
    (s.sweepPage id).StackedOk := by
  have hbase : (s.setStore { s.store with pages := s.store.pages.filter (·.id != id) }).markDirty.BaseOk := by
    refine State.BaseOk.markDirty (h.toBaseOk.setStore (h.pages.filter _) ?_)
    refine h.draftLaw.setPages (List.length_filter_le _ _) fun e he other hother => ?_
    have hne : (other != id) = true := by
      rw [bne_iff_ne]
      rintro rfl
      exact PageStore.pendingNames_spec hfree (h.draftLaw.entry_committing he) hother
    rw [any_filter_id, hne, Bool.true_and]
  obtain ⟨hlength, hids, hall⟩ := h.stack
  refine hbase.endOverrides 3 hlength hids fun o ho hstays => ⟨(hall o ho).1, ?_⟩
  have hthere := (hall o ho).2
  exact any_filter_id.trans (by rw [Bool.and_eq_true]; exact ⟨by simpa using hstays, hthere⟩)

/-- After the sweep the seat is right but for the page that has gone (R70). -/
theorem State.SeatOk.sweepPage {s : State} (h : s.SeatOk) (id : Nat) : (s.sweepPage id).SeatOkBut id := by
  obtain ⟨hsome, hnone⟩ := State.seatOk_iff.mp h
  unfold State.SeatOkBut
  rw [State.sweepPage_rotation]
  refine ⟨fun seat hseat => ?_, fun hseat step hstep => ?_⟩
  · obtain ⟨step, hstep, hthere, hremaining⟩ := hsome seat hseat
    exact ⟨step, hstep, fun hne => by simpa [State.present_sweepPage, hthere] using hne, hremaining⟩
  · rw [State.present_sweepPage, hnone hseat step hstep, Bool.and_false]

/-- A page that no pending commit names may be deleted (R18, R19). -/
theorem State.CoreOk.removePage {s : State} (h : s.CoreOk) {id : Nat} (hfree : s.store.pendingNames id = false) :
    (s.removePage id).CoreOk :=
  ((h.sweepPage hfree).rotationPageGone (h.seat.sweepPage id)).recompute

/-- DELETE_PAGE keeps the law (R18, R19). -/
theorem execDeletePage_keeps (tag page : Byte) : KeepsLaw (execDeletePage tag page) :=
  keepsLaw_of_owner fun _ s h _ => by
    dsimp only
    split
    · trivial
    split
    · trivial
    split
    · trivial
    rename_i hfree
    split
    · trivial
    · refine ⟨h.removePage (Bool.eq_false_iff.mpr hfree), by simp, by simp, ?_⟩
      simp [State.debts, State.removePage, State.markDirty]

/-! ## Second ticks -/

/-- The idle count of one draft at a second tick keeps the law (R9). -/
theorem State.CoreOk.countDraft {s : State} (h : s.CoreOk) (d : Fin 2) : (s.countDraft d).CoreOk := by
  unfold State.countDraft
  split
  · rename_i body idle hd
    split
    · exact h.setDraft (h.draftLaw.edit hd rfl (h.editing_fields hd).2 ‹_›)
    · exact (h.setDraft (h.draftLaw.release (by rw [hd]; rfl))).offer _ _ _
  · exact h

/-- The page store's part of a second tick keeps the law (R9). -/
theorem State.CoreOk.countDrafts {s : State} (h : s.CoreOk) : s.countDrafts.CoreOk := (h.countDraft 0).countDraft 1

end Sys2Proof.Machine
end

section
/-! PROOFS. The walk of a minute start and the calendar's happenings keep the law (chapters 6 and 7). -/

namespace Sys2Proof.Machine

open Sys2Proof

/-! ## The walk of a minute start -/

/-- The law once the schedule alone has changed. -/
theorem State.CoreOk.setSchedule {s : State} (h : s.CoreOk) {x : Schedule} (hslots : ∀ y ∈ x.slots.toList, y.Ok)
    (hwalk : x.WalkOk) (hminute : (s.setSchedule x).MinuteOk) : (s.setSchedule x).CoreOk :=
  { h with slots := hslots, walk := hwalk, minute := hminute }

/-- The firings of a minute start are those of its slots in ascending order, each ARMED with the entry that is read (R119). -/
theorem Schedule.mem_firings {sc : Schedule} {m : MinuteStart} {f : Firing} (hf : f ∈ sc.firings m) :
    sc.slots[f.slot]? = some (.holds .armed f.entry) ∧ f.start = m := by
  obtain ⟨⟨x, i⟩, hx, hfiring⟩ := List.mem_filterMap.mp hf
  have hi := List.mem_zipIdx_iff_getElem?.mp hx
  unfold Slot.firing at hfiring
  split at hfiring
  · split at hfiring
    · obtain rfl := Option.some.inj hfiring
      simp_all
    · cases hfiring
  · cases hfiring

/-- A firing stands for its slot (R119). -/
theorem Slot.firing_slot {m : MinuteStart} {i : Nat} {x : Slot} {f : Firing} (h : x.firing m i = some f) : f.slot = i := by
  unfold Slot.firing at h
  split at h
  · split at h
    · obtain rfl := Option.some.inj h
      rfl
    · cases h
  · cases h

/-- The firings stand in ascending slot order (R119). -/
theorem Schedule.firings_sorted (sc : Schedule) (m : MinuteStart) : ((sc.firings m).map Firing.slot).Pairwise (· < ·) := by
  have hindices : (sc.slots.toList.zipIdx).Pairwise fun p q => p.2 < q.2 := by
    have := List.pairwise_lt_range' (s := 0) (n := sc.slots.toList.length)
    rw [← List.zipIdx_map_snd 0 sc.slots.toList] at this
    exact List.pairwise_map.mp this
  refine List.pairwise_map.mpr (List.pairwise_filterMap.mpr (hindices.imp fun {p q} hpq f hf g hg => ?_))
  rw [Slot.firing_slot hf, Slot.firing_slot hg]
  exact hpq

/-- The taking of a minute start by the schedule keeps the law (R119). -/
theorem State.CoreOk.beginWalk {s : State} (h : s.CoreOk) : s.beginWalk.CoreOk := by
  rcases s.beginWalk_cases with ⟨m, rest, _, hstarts, he⟩ | he <;> rw [he]
  · obtain ⟨_, _, hstartsOk⟩ := h.walk
    obtain ⟨hminutes, _⟩ := h.minute
    have hmem : m ∈ s.schedule.minuteStarts := by simp [hstarts]
    have hrest : ∀ x ∈ rest, x ∈ s.schedule.minuteStarts := fun x hx => by simp [hstarts, hx]
    refine h.setSchedule h.slots ⟨s.schedule.firings_sorted m, fun f hf => ?_, fun x hx => hstartsOk x (hrest x hx)⟩
      ⟨fun x hx => hminutes x (hrest x hx), fun f hf => ?_⟩
    · obtain ⟨hslot, hstart⟩ := Schedule.mem_firings hf
      exact ⟨hslot, hstart ▸ hstartsOk m hmem⟩
    · obtain ⟨_, hstart⟩ := Schedule.mem_firings hf
      exact ⟨(hminutes m hmem).1, hstart.trans (hminutes m hmem).2⟩
  · exact h

/-- A slot that is read is legal, and its number is at most 31 (R109). -/
theorem State.BaseOk.slotOk {s : State} (h : s.BaseOk) {i : Nat} {x : Slot} (hx : s.schedule.slots[i]? = some x) :
    x.Ok ∧ i ≤ 31 := by
  obtain ⟨hi, rfl⟩ := Vector.getElem?_eq_some_iff.mp hx
  exact ⟨h.slots _ (by simp), by omega⟩

/-- The action of a firing keeps the law (R120). -/
theorem State.CoreOk.handAction {s : State} (h : s.CoreOk) {slot : Nat} {a : Action} (hslot : slot ≤ 31) (ha : a.Ok) :
    (s.handAction slot a).CoreOk := by
  cases a with
  | showPage page priority duration => exact h.takeShow hslot ha
  | selectList list => exact h.reseatAndOffer list
  | clearBelow priority => exact h.takeClearBelow priority
  | display mode => exact { h with }

/-- A slot of the schedule is written, beside the slots of the unfinished walk (R114 to R116, R122). -/
theorem State.CoreOk.setSlots {s : State} (h : s.CoreOk) {slots : Vector Slot 32} (hslots : ∀ y ∈ slots.toList, y.Ok)
    (hwalk : ∀ f ∈ s.schedule.walk, slots[f.slot]? = s.schedule.slots[f.slot]?) :
    (s.setSchedule { s.schedule with slots := slots }).CoreOk := by
  obtain ⟨hsorted, hfirings, hstarts⟩ := h.walk
  exact h.setSchedule hslots ⟨hsorted, fun f hf => ⟨(hwalk f hf).trans (hfirings f hf).1, (hfirings f hf).2⟩, hstarts⟩ h.minute

/-- The slots once one of them is SPENT (R122). -/
theorem slotsOk_setIfInBounds {slots : Vector Slot 32} (h : ∀ y ∈ slots.toList, y.Ok) {i : Nat} {x : Slot} (hx : x.Ok) :
    ∀ y ∈ (slots.setIfInBounds i x).toList, y.Ok := by
  rw [forall_mem_toList_iff] at h ⊢
  intro j
  simp only [Fin.getElem_fin, Vector.getElem_setIfInBounds]
  split
  · exact hx
  · exact h j

/-- Step 2 of a firing (R121). -/
def State.reportFiring (s : State) (f : Firing) : State :=
  if f.entry.report then s.offerStamped (some ⟨f.start.hour, f.start.minute⟩) .entryFired f.slot f.entry.action.code else s

/-- The report of a firing and its SPENT marking (R121, R122). -/
theorem State.noteFiring_eq (s : State) (f : Firing) :
    s.noteFiring f =
      if f.entry.once then
        ((s.reportFiring f).setSchedule { (s.reportFiring f).schedule with
          slots := (s.reportFiring f).schedule.slots.setIfInBounds f.slot (.holds .spent f.entry) }).markDirty
      else s.reportFiring f := rfl

@[simp] theorem State.reportFiring_schedule (s : State) (f : Firing) : (s.reportFiring f).schedule = s.schedule := by
  unfold State.reportFiring
  split <;> simp

/-- The report of a firing keeps the law (R121). -/
theorem State.CoreOk.reportFiring {s : State} (h : s.CoreOk) (f : Firing) : (s.reportFiring f).CoreOk := by
  unfold State.reportFiring
  split
  · exact h.offerStamped _ _ _ _
  · exact h

/-- The report and the SPENT marking of a firing keep the law, where no firing left is of its slot (R121, R122). -/
theorem State.CoreOk.noteFiring {s : State} (h : s.CoreOk) {f : Firing} (hentry : f.entry.Ok)
    (hother : ∀ g ∈ s.schedule.walk, g.slot ≠ f.slot) : (s.noteFiring f).CoreOk := by
  have hreported := h.reportFiring f
  rw [State.noteFiring_eq]
  split
  · rename_i honce
    have hspent : (Slot.holds .spent f.entry).Ok := ⟨hentry, fun _ => honce⟩
    refine (hreported.setSlots (slotsOk_setIfInBounds hreported.slots hspent) fun g hg => ?_).markDirty
    rw [State.reportFiring_schedule] at hg
    exact Vector.getElem?_setIfInBounds_ne (hother g hg).symm
  · exact hreported

/-- One whole firing keeps the law (R119). -/
theorem State.CoreOk.fireNext {s : State} (h : s.CoreOk) : s.fireNext.CoreOk := by
  unfold State.fireNext
  split
  · exact h
  · rename_i f rest hw
    obtain ⟨hsorted, hfirings, hstarts⟩ := h.walk
    obtain ⟨hminutes, hwalk⟩ := h.minute
    rw [hw] at hsorted hfirings hwalk
    obtain ⟨hlater, hrest⟩ := List.pairwise_cons.mp hsorted
    obtain ⟨⟨⟨hpattern, haction⟩, _⟩, hslot⟩ := h.slotOk (hfirings f List.mem_cons_self).1
    have hbegun : (s.setSchedule { s.schedule with walk := rest }).CoreOk :=
      h.setSchedule h.slots ⟨hrest, fun g hg => hfirings g (List.mem_cons_of_mem _ hg), hstarts⟩
        ⟨hminutes, fun g hg => hwalk g (List.mem_cons_of_mem _ hg)⟩
    refine (hbegun.handAction hslot haction).noteFiring ⟨hpattern, haction⟩ fun g hg => ?_
    have hg' : g ∈ rest := by simpa using hg
    exact (hlater g.slot (List.mem_map_of_mem hg')).ne'

/-- Firings of the walk, one after another, keep the law (R119). -/
theorem State.CoreOk.fireMany {s : State} (h : s.CoreOk) (n : Nat) : (s.fireMany n).CoreOk := by
  induction n generalizing s with
  | zero => exact h
  | succ n ih => exact ih h.fireNext

/-- The completion of an unfinished walk keeps the law (R119, R125, R126). -/
theorem State.CoreOk.finishWalk {s : State} (h : s.CoreOk) : s.finishWalk.CoreOk := by
  unfold State.finishWalk
  split
  · exact h.fireMany _
  · obtain ⟨_, _, hstarts⟩ := h.walk
    exact h.setSchedule h.slots ⟨List.Pairwise.nil, List.forall_mem_nil _, hstarts⟩ ⟨h.minute.1, List.forall_mem_nil _⟩

/-- A minute start taken whole keeps the law (R119). -/
theorem State.CoreOk.takeMinute {s : State} (h : s.CoreOk) : s.takeMinute.CoreOk := h.beginWalk.finishWalk

/-- The minute starts that wait are taken (R121, R126; log entry 26). -/
theorem State.CoreOk.takeWaiting {s : State} (h : s.CoreOk) : s.takeWaiting.CoreOk := by
  have hmany (n : Nat) : ∀ {t : State}, t.CoreOk → (t.takeMinutes n).CoreOk := by
    induction n with
    | zero => exact id
    | succ n ih => exact fun ht => ih ht.takeMinute
  exact hmany _ h

/-- A hand-off of the walk keeps the law (R119, R126). -/
theorem State.CoreOk.handDue {s : State} (h : s.CoreOk) (isIt : Firing → Bool) : (s.handDue isIt).CoreOk := by
  unfold State.handDue
  split
  · split
    · exact h.beginWalk.fireNext
    · exact h
  · exact h

/-! ### The archive operation stands -/

@[simp] theorem State.noteFiring_op (s : State) (f : Firing) : (s.noteFiring f).archive.op = s.archive.op := by
  unfold State.noteFiring State.markDirty
  dsimp only
  split <;> split <;> simp

@[simp] theorem State.fireNext_op (s : State) : s.fireNext.archive.op = s.archive.op := by
  unfold State.fireNext
  split <;> simp [State.fire]

@[simp] theorem State.fireMany_op (s : State) (n : Nat) : (s.fireMany n).archive.op = s.archive.op := by
  induction n generalizing s with
  | zero => rfl
  | succ n ih => exact (ih s.fireNext).trans s.fireNext_op

@[simp] theorem State.finishWalk_op (s : State) : s.finishWalk.archive.op = s.archive.op := by
  unfold State.finishWalk
  split <;> simp

@[simp] theorem State.takeMinutes_op (s : State) (n : Nat) : (s.takeMinutes n).archive.op = s.archive.op := by
  induction n generalizing s with
  | zero => rfl
  | succ n ih => exact (ih s.takeMinute).trans (by simp [State.takeMinute])

@[simp] theorem State.takeWaiting_op (s : State) : s.takeWaiting.archive.op = s.archive.op := s.takeMinutes_op _

/-! ## The calendar's date and time -/

/-- A month has 28 to 31 days (R96). -/
theorem monthLength_bounds (year month : Nat) : 28 ≤ monthLength year month ∧ monthLength year month ≤ 31 := by
  unfold monthLength
  split_ifs <;> omega

/-- The next day of a valid date is a valid date with its weekday (R97). -/
theorem CalendarFields.Ok.nextDay {f : CalendarFields} (h : f.Ok) : f.nextDay.Ok := by
  obtain ⟨hylow, hyhigh, hmlow, hmhigh, hdlow, hdhigh, hhour, hminute, hsecond, _⟩ := h
  unfold CalendarFields.nextDay
  have hlength := monthLength_bounds f.year (f.month + 1)
  have hjanuary := monthLength_bounds (f.year + 1) 1
  by_cases hd : f.day < monthLength f.year f.month
  · simp only [hd, if_true]
    exact ⟨hylow, hyhigh, hmlow, hmhigh, Nat.le_add_left 1 _, hd, hhour, hminute, hsecond, rfl⟩
  by_cases hm : f.month < 12
  · simp only [hd, hm, if_true, if_false]
    exact ⟨hylow, hyhigh, Nat.le_add_left 1 _, hm, Nat.le_refl 1, by dsimp only; omega, hhour, hminute, hsecond, rfl⟩
  by_cases hy : f.year < 2099
  · simp only [hd, hm, hy, if_true, if_false]
    exact ⟨Nat.le_succ_of_le hylow, hy, Nat.le_refl 1, (by decide : 1 ≤ 12), Nat.le_refl 1, by dsimp only; omega, hhour, hminute,
      hsecond, rfl⟩
  · simp only [hd, hm, hy, if_false]
    exact ⟨Nat.le_refl _, (by decide : 2000 ≤ 2099), Nat.le_refl 1, (by decide : 1 ≤ 12), Nat.le_refl 1,
      (by decide : 1 ≤ monthLength 2000 1), hhour, hminute, hsecond, rfl⟩

/-- The next second of a valid date and time is a valid one (R97). -/
theorem CalendarFields.Ok.nextSecond {f : CalendarFields} (h : f.Ok) : f.nextSecond.Ok := by
  obtain ⟨hylow, hyhigh, hmlow, hmhigh, hdlow, hdhigh, hhour, hminute, hsecond, hweekday⟩ := h
  unfold CalendarFields.nextSecond
  split
  · exact ⟨hylow, hyhigh, hmlow, hmhigh, hdlow, hdhigh, hhour, hminute, ‹_›, hweekday⟩
  split
  · exact ⟨hylow, hyhigh, hmlow, hmhigh, hdlow, hdhigh, hhour, ‹_›, Nat.zero_le _, hweekday⟩
  split
  · exact ⟨hylow, hyhigh, hmlow, hmhigh, hdlow, hdhigh, ‹_›, Nat.zero_le _, Nat.zero_le _, hweekday⟩
  · exact CalendarFields.Ok.nextDay
      ⟨hylow, hyhigh, hmlow, hmhigh, hdlow, hdhigh, Nat.zero_le _, Nat.zero_le _, Nat.zero_le _, hweekday⟩

/-- Within a minute the values of its minute start stand (R97). -/
theorem CalendarFields.minuteStart_nextSecond {f : CalendarFields} (h : f.nextSecond.second ≠ 0) :
    f.nextSecond.minuteStart = f.minuteStart := by
  have hday (g : CalendarFields) : g.nextDay.second = g.second := rfl
  unfold CalendarFields.nextSecond at h ⊢
  by_cases hs : f.second < 59
  · simp only [hs, if_true]
    rfl
  · simp only [hs, if_false] at h
    split_ifs at h <;> simp [hday] at h

/-- The values that a minute start of a valid date and time carries are in range (R97). -/
theorem CalendarFields.Ok.minuteStart {f : CalendarFields} (h : f.Ok) : f.minuteStart.Ok := by
  obtain ⟨_, _, hmlow, hmhigh, hdlow, hdhigh, hhour, hminute, _, hweekday⟩ := h
  have hlength := monthLength_bounds f.year f.month
  refine ⟨hminute, hhour, hdlow, Nat.le_trans hdhigh hlength.2, ?_, hmlow, hmhigh⟩
  change f.weekday ≤ 6
  rw [hweekday, weekdayOf]
  omega

/-! ## The calendar's happenings -/

/-- The law once the calendar alone has changed. -/
theorem State.CoreOk.setCalendar {s : State} (h : s.CoreOk) {x : Calendar} (hx : x.Ok) (hminute : (s.setCalendar x).MinuteOk) :
    (s.setCalendar x).CoreOk :=
  { h with calendar := hx, minute := hminute }

/-- With no minute start waiting and no walk unfinished the law of the minute says nothing (R126). -/
theorem State.minuteOk_of_idle {s : State} (hwalk : s.schedule.walk = []) (hstarts : s.schedule.minuteStarts = []) :
    s.MinuteOk := by
  simp [State.MinuteOk, hwalk, hstarts]

/-- The law of the minute stands while the calendar's state and date do (R121). -/
theorem State.MinuteOk.congr {s t : State} (h : s.MinuteOk) (hschedule : t.schedule = s.schedule)
    (hstate : t.calendar.state = s.calendar.state) (hfields : t.calendar.fields.minuteStart = s.calendar.fields.minuteStart) :
    t.MinuteOk := by
  unfold State.MinuteOk
  rw [hschedule, hstate, hfields]
  exact h

/-- Outside RUNNING no minute start waits and no walk is unfinished (R126). -/
theorem State.MinuteOk.idle {s : State} (h : s.MinuteOk) (hstate : s.calendar.state ≠ .running) :
    s.schedule.walk = [] ∧ s.schedule.minuteStarts = [] :=
  ⟨List.eq_nil_iff_forall_not_mem.mpr fun f hf => hstate (h.2 f hf).1,
    List.eq_nil_iff_forall_not_mem.mpr fun m hm => hstate (h.1 m hm).1⟩

/-- A frame period divides the second (R94). -/
theorem FrameRate.period_dvd (r : FrameRate) : r.period ∣ Config.secondCounts := by
  cases r <;> decide

/-- A frame period is not empty (R94). -/
theorem FrameRate.period_pos (r : FrameRate) : 0 < r.period := by
  cases r <;> decide

/-- A prescaler restart keeps the law (R95). -/
theorem State.CoreOk.restartPrescaler {s : State} (h : s.CoreOk) : s.restartPrescaler.CoreOk := by
  obtain ⟨hcontrast, _⟩ := h.frame
  obtain ⟨hfields, _, hstate⟩ := h.calendar
  exact
    { h with
      frame := ⟨hcontrast, s.frame.rate.period_pos, Nat.le_of_dvd (by decide) s.frame.rate.period_dvd, Nat.mod_self _⟩
      calendar := ⟨hfields, (by decide : 0 < Config.secondCounts), hstate⟩ }

/-- The calendar runs on a declared crystal (R102). -/
theorem State.CoreOk.runCalendar {s : State} (h : s.CoreOk) {timer : Nat} (hheld : s.calendar.state = .held timer) :
    s.runCalendar.CoreOk := by
  obtain ⟨hfields, hprescaler, hstate⟩ := h.calendar
  obtain ⟨hwalk, hstarts⟩ := h.minute.idle (by simp [hheld])
  rw [hheld] at hstate
  exact h.setCalendar ⟨hfields, hprescaler, hstate.1⟩ (State.minuteOk_of_idle hwalk hstarts)

/-- The release of a hold keeps the law (R102, R103, R108). -/
theorem State.CoreOk.releaseHold {s : State} (h : s.CoreOk) {timer : Nat} (hheld : s.calendar.state = .held timer) :
    s.releaseHold.CoreOk :=
  (h.runCalendar hheld).restartPrescaler

/-- A second tick at a HELD calendar keeps the law (R104). -/
theorem State.CoreOk.countHold {s : State} (h : s.CoreOk) {timer : Nat} (hheld : s.calendar.state = .held timer) :
    (s.countHold timer).CoreOk := by
  unfold State.countHold
  split
  · obtain ⟨hfields, hprescaler, hstate⟩ := h.calendar
    obtain ⟨hwalk, hstarts⟩ := h.minute.idle (by simp [hheld])
    rw [hheld] at hstate
    exact h.setCalendar ⟨hfields, hprescaler, hstate.1, ‹_›⟩ (State.minuteOk_of_idle hwalk hstarts)
  · exact (h.runCalendar hheld).offer _ _ _

/-- The calendar takes a SET_TIME of a valid date and time, on a declared crystal (R100). -/
theorem State.CoreOk.setTime {s : State} (h : s.CoreOk) {f : CalendarFields} (hf : f.Ok)
    (hcrystal : s.calendar.crystal = .running) (hold : Bool) : (s.setTime f hold).CoreOk := by
  have hidle (x : Calendar) : (s.takeWaiting.setCalendar x).MinuteOk :=
    State.minuteOk_of_idle (by simp) (by simp)
  unfold State.setTime
  split
  · exact h.takeWaiting.setCalendar ⟨hf, h.calendar.2.1, hcrystal, by decide⟩ (hidle _)
  · exact (h.takeWaiting.setCalendar (x := { s.calendar with fields := f, state := .running })
      ⟨hf, h.calendar.2.1, hcrystal⟩ (hidle _)).restartPrescaler

/-- A second tick up to the fields' advance: the minute starts of the minute that ends are taken, and the fields advance (R97). -/
def State.advanceFields (s : State) : State :=
  (if s.calendar.fields.nextSecond.second = 0 then s.takeWaiting else s).setCalendar
    { s.calendar with fields := s.calendar.fields.nextSecond }

/-- A second tick up to CALENDAR_WRAP (R97). -/
def State.advanceCalendar (s : State) : State :=
  if s.calendar.fields.isLast then s.advanceFields.offer .calendarWrap 0 0 else s.advanceFields

/-- A second tick at a RUNNING calendar is the fields' advance with CALENDAR_WRAP, and then the minute start (R97). -/
theorem State.countSecond_eq (s : State) :
    s.countSecond =
      if s.calendar.fields.nextSecond.second = 0 ∧ s.listening then
        s.advanceCalendar.setSchedule
          { s.advanceCalendar.schedule with
            minuteStarts := s.advanceCalendar.schedule.minuteStarts ++ [s.calendar.fields.nextSecond.minuteStart] }
      else s.advanceCalendar := rfl

/-- The calendar after a second tick (R97). -/
theorem State.advanceCalendar_calendar (s : State) :
    s.advanceCalendar.calendar = { s.calendar with fields := s.calendar.fields.nextSecond } := by
  unfold State.advanceCalendar
  split <;> simp [State.advanceFields]

/-- The fields' advance keeps the law (R97). -/
theorem State.CoreOk.advanceFields {s : State} (h : s.CoreOk) : s.advanceFields.CoreOk := by
  obtain ⟨hfields, hprescaler, hstate⟩ := h.calendar
  unfold State.advanceFields
  split
  · exact h.takeWaiting.setCalendar ⟨hfields.nextSecond, hprescaler, hstate⟩ (State.minuteOk_of_idle (by simp) (by simp))
  · rename_i hsecond
    exact h.setCalendar ⟨hfields.nextSecond, hprescaler, hstate⟩
      (h.minute.congr rfl rfl (CalendarFields.minuteStart_nextSecond hsecond))

/-- See `State.CoreOk.advanceFields`. -/
theorem State.CoreOk.advanceCalendar {s : State} (h : s.CoreOk) : s.advanceCalendar.CoreOk := by
  unfold State.advanceCalendar
  split
  · exact h.advanceFields.offer _ _ _
  · exact h.advanceFields

/-- A second tick at a RUNNING calendar keeps the law (R97). -/
theorem State.CoreOk.countSecond {s : State} (h : s.CoreOk) (hrunning : s.calendar.state = .running) : s.countSecond.CoreOk := by
  have hadvanced := h.advanceCalendar
  rw [State.countSecond_eq]
  split
  · obtain ⟨hsorted, hfirings, hstarts⟩ := hadvanced.walk
    obtain ⟨hminutes, hwalk⟩ := hadvanced.minute
    refine hadvanced.setSchedule hadvanced.slots ⟨hsorted, hfirings, fun m hm => ?_⟩ ⟨fun m hm => ?_, hwalk⟩
    · rcases List.mem_append.mp hm with hm | hm
      · exact hstarts m hm
      · exact List.mem_singleton.mp hm ▸ h.calendar.1.nextSecond.minuteStart
    · rcases List.mem_append.mp hm with hm | hm
      · exact hminutes m hm
      · rw [State.setSchedule_calendar, s.advanceCalendar_calendar]
        exact ⟨hrunning, List.mem_singleton.mp hm⟩
  · exact hadvanced

end Sys2Proof.Machine
end

section
/-! PROOFS. The frame boundary keeps the law: the pending commits complete, and the frame is latched (chapters 1 to 3). -/

namespace Sys2Proof.Machine

open Sys2Proof

/-! ## The completion of a commit -/

/-- The store once the front commit has completed (R14). -/
def PageStore.completed (st : PageStore) (d : Fin 2) (p : Page) (rest : List PendingCommit) : PageStore :=
  { st.setDraft d .free with pages := putPage p st.pages, commits := rest }

/-- The drafts and commits once the front commit has completed (R14): its record stands, its draft is FREE. -/
theorem PageStore.DraftsOk.complete {st : PageStore} {table : Vector (Option Cell) 16} {busy : Bool}
    (h : st.DraftsOk table busy) (hsorted : st.pages.Pairwise (·.id < ·.id)) {e : PendingCommit} {rest : List PendingCommit}
    (hc : st.commits = e :: rest) {p : Page} (hp : st.drafts[e.draft].target = some p.id) :
    (st.completed e.draft p rest).DraftsOk table busy := by
  have hget (d : Fin 2) : (st.completed e.draft p rest).drafts[d] = if d = e.draft then .free else st.drafts[d] :=
    st.getElem_setDraft e.draft d .free
  have hdistinct := h.distinct
  rw [hc, List.map_cons, List.nodup_cons] at hdistinct
  have hrest : ∀ g ∈ rest, g ∈ st.commits := fun g hg => by simp [hc, hg]
  have hother : ∀ g ∈ rest, g.draft ≠ e.draft := fun g hg he => hdistinct.1 (he ▸ List.mem_map_of_mem hg)
  constructor
  · intro d
    rw [hget]
    split
    · trivial
    · exact h.legal d
  · intro d f hne id
    rw [hget, hget]
    split <;> split
    · exact fun hx => nomatch hx
    · exact fun hx => nomatch hx
    · exact fun _ hx => nomatch hx
    · exact h.apart d f hne id
  · exact hdistinct.2
  · intro d
    rw [hget]
    split
    · rename_i hd
      rw [hd]
      exact ⟨fun hx => (nomatch hx), fun hx => absurd hx hdistinct.1⟩
    · rename_i hd
      rw [h.pending d, hc]
      simp [PageStore.completed, hd]
  · intro g hg id
    rw [hget, if_neg (hother g hg)]
    intro hid
    have hne : (p.id == id) = false := by
      rw [beq_eq_false_iff_ne]
      rintro rfl
      exact h.apart g.draft e.draft (hother g hg) _ hid hp
    rw [h.news g (hrest g hg) id hid]
    exact congrArg Bool.not (by simp [PageStore.completed, any_putPage, hne])
  · intro d
    rw [hget]
    split
    · trivial
    · exact h.cells d
  · have hroom := h.room
    have hnew := h.news e (by simp [hc]) _ hp
    have hcount : st.pendingNew = (if e.isNew then 1 else 0) + PageStore.pendingNew (st.completed e.draft p rest) := by
      simp only [PageStore.pendingNew, hc, PageStore.completed, List.filter_cons]
      cases e.isNew <;> simp [Nat.add_comm]
    have hlength : (st.completed e.draft p rest).pages.length = st.pages.length + if e.isNew then 1 else 0 := by
      refine (putPage_length hsorted).trans ?_
      rw [hnew]
      cases st.pages.any (·.id == p.id) <;> rfl
    omega
  · intro hb
    have := h.idle hb
    rw [hc] at this
    cases this

/-- A stored version is one byte (R1, R14). -/
theorem State.committedPage_ok (s : State) (isNew : Bool) {b : DraftBody} (hid : idOk b.target) (hfields : b.fields.Ok) :
    (s.committedPage isNew b).Ok := by
  refine ⟨hid, ?_, hfields, fun i _ => by simp [State.committedPage, clearLatches]⟩
  unfold State.committedPage
  dsimp only
  split
  · exact Nat.le_of_lt_succ (Nat.mod_lt _ (by decide))
  · exact Nat.zero_le _

/-- The rotation is STARVED without a seat on a list with steps (R60). -/
theorem Rotation.state_starved_iff {r : Rotation} : r.state = .starved ↔ r.seat = none ∧ r.activeList.steps ≠ [] := by
  unfold Rotation.state
  cases r.seat with
  | none => cases r.activeList.steps <;> simp
  | some seat => cases r.paused <;> simp

/-- The rotation's reaction to a created page makes the seat and the selection right, where they were right before it (R71). -/
theorem State.StackedOk.rotationPageCreated {s t : State} (h : t.StackedOk) (hseat : s.SeatOk) (hselection : s.SelectionOk)
    (hstack : t.stack = s.stack) (hrotation : t.rotation = s.rotation) {page : Nat}
    (hpresent : ∀ id, t.present id = (page == id || s.present id)) : (t.rotationPageCreated page).CoreOk := by
  unfold State.rotationPageCreated
  split
  · exact h.reseatAndOffer _
  · rename_i hstays
    obtain ⟨hsome, hnone⟩ := State.seatOk_iff.mp hseat
    refine { h with seat := State.seatOk_iff.mpr ⟨fun seat hx => ?_, fun hx step hstep => ?_⟩,
                    selection := hselection.congr hstack hrotation }
    · rw [hrotation] at hx ⊢
      obtain ⟨step, hstep, hthere, hremaining⟩ := hsome seat hx
      exact ⟨step, hstep, by rw [hpresent, hthere, Bool.or_true], hremaining⟩
    · have hother : (page == step.page) = false := by
        rw [beq_eq_false_iff_ne]
        rintro rfl
        refine hstays ⟨Rotation.state_starved_iff.mpr ⟨hx, List.ne_nil_of_mem hstep⟩, ?_⟩
        exact List.any_eq_true.mpr ⟨step, hstep, by simp⟩
      rw [hrotation] at hx hstep
      rw [hpresent, hnone hx step hstep, hother]
      rfl

/-- What the completion of the front commit comes to: the record written, and the rotation's reaction to a new page (R14). -/
theorem State.completeCommit_eq {s : State} {e : PendingCommit} {b : DraftBody} (hb : s.store.drafts[e.draft] = .committing b) :
    s.completeCommit e =
      let page := s.committedPage e.isNew b
      let t := (s.setStore (s.store.completed e.draft page (s.store.commits.drop 1))).markDirty.reply
        ⟨e.tag, .ok, [byteOf page.id, byteOf page.version], false⟩
      if e.isNew then t.rotationPageCreated page.id else t := by
  unfold State.completeCommit
  rw [hb]
  rfl

/-- The draft of an entry is COMMITTING with a legal content (R3, R13). -/
theorem PageStore.DraftsOk.entry {st : PageStore} {table : Vector (Option Cell) 16} {busy : Bool} (h : st.DraftsOk table busy)
    {e : PendingCommit} (he : e ∈ st.commits) :
    ∃ b, st.drafts[e.draft] = .committing b ∧ idOk b.target ∧ b.fields.Ok ∧ b.fields.CellsDefined table := by
  have hcommitting := h.entry_committing he
  have hlegal := h.legal e.draft
  have hcells := h.cells e.draft
  cases hd : st.drafts[e.draft] with
  | free => rw [hd] at hcommitting; cases hcommitting
  | editing b n => rw [hd] at hcommitting; cases hcommitting
  | committing b =>
    rw [hd] at hlegal hcells
    exact ⟨b, rfl, hlegal.1, hlegal.2, hcells⟩

/-- The front commit completes, and the law stands (R14). -/
theorem State.ServingOk.completeCommit {s : State} (h : s.ServingOk) {e : PendingCommit} {rest : List PendingCommit}
    (hc : s.store.commits = e :: rest) : (s.completeCommit e).ServingOk ∧ (s.completeCommit e).store.commits = rest := by
  have hmem : e ∈ s.store.commits := by simp [hc]
  obtain ⟨b, hb, hid, hfields, hcells⟩ := h.draftLaw.entry hmem
  obtain ⟨page, hpage⟩ : ∃ page, page = s.committedPage e.isNew b := ⟨_, rfl⟩
  have hpid : page.id = b.target := congrArg Page.id hpage
  have htarget : s.store.drafts[e.draft].target = some page.id := by rw [hb, hpid]; rfl
  have hnew : e.isNew = !s.present page.id := h.draftLaw.news e hmem _ htarget
  have hpages : pagesOk s.cells.table (putPage page s.store.pages) := by
    refine h.pages.putPage (hpage ▸ s.committedPage_ok _ hid hfields) (hpage ▸ hcells) fun habsent => ?_
    have hroom := h.draftLaw.room
    have hcount : 1 ≤ s.store.pendingNew :=
      List.length_pos_of_mem (List.mem_filter.mpr ⟨hmem, hnew.trans (congrArg Bool.not habsent)⟩)
    omega
  have hbase : (s.setStore (s.store.completed e.draft page rest)).BaseOk :=
    h.toBaseOk.setStore hpages (h.draftLaw.complete h.pages.2.1 hc htarget)
  obtain ⟨t, ht⟩ : ∃ t, t = (s.setStore (s.store.completed e.draft page rest)).markDirty.reply
      ⟨e.tag, .ok, [byteOf page.id, byteOf page.version], false⟩ := ⟨_, rfl⟩
  have hpresent (id : Nat) : t.present id = (page.id == id || s.present id) := by rw [ht]; exact any_putPage
  have hstacked : t.StackedOk := by
    have hstack : t.StackOk := h.stack.mono (by rw [ht]; rfl) fun id hthere => by rw [hpresent, hthere, Bool.or_true]
    rw [ht] at hstack ⊢
    exact { hbase with stack := hstack }
  have hlink : t.link.Ok t.debts := by
    rw [ht]
    refine h.link.settle rfl (List.Perm.of_eq ?_)
    change s.debts = e.tag :: (rest.map PendingCommit.tag ++ s.archive.op.tags)
    rw [State.debts, hc]
    rfl
  have hresult : s.completeCommit e = if e.isNew then t.rotationPageCreated page.id else t := by
    rw [State.completeCommit_eq hb, ht, hpage, hc]
    rfl
  rw [hresult]
  split
  · refine ⟨{ hstacked.rotationPageCreated h.seat h.selection (by rw [ht]; rfl) (by rw [ht]; rfl) hpresent with
        phase := (State.rotationPageCreated_phase t _).trans (by rw [ht]; exact h.phase)
        link := by simpa [State.debts] using hlink }, by rw [State.rotationPageCreated_store, ht]; rfl⟩
  · rename_i hold
    have hthere : s.present page.id = true := by simpa [hnew] using hold
    have hsame (id : Nat) : t.present id = s.present id := by
      rw [hpresent]
      cases hp : page.id == id
      · rfl
      · rw [← eq_of_beq hp, hthere]
        rfl
    exact ⟨{ hstacked with
        seat := h.seat.congr (by rw [ht]; rfl) hsame
        selection := h.selection.congr (by rw [ht]; rfl) (by rw [ht]; rfl)
        phase := by rw [ht]; exact h.phase
        link := hlink }, by rw [ht]; rfl⟩

/-- Every pending commit completes, and the law stands (R14). -/
theorem State.ServingOk.completeCommits {s : State} (h : s.ServingOk) : s.completeCommits.ServingOk := by
  have hfold (l : List PendingCommit) : ∀ {t : State}, t.ServingOk → t.store.commits = l →
      (l.foldl State.completeCommit t).ServingOk := by
    induction l with
    | nil => exact fun ht _ => ht
    | cons e rest ih =>
      intro t ht hl
      obtain ⟨hnext, hrest⟩ := ht.completeCommit hl
      exact ih hnext hrest
  exact hfold _ h rfl

/-! ## The latch of the frame -/

/-- FIELD_OVERFLOW for each index of a list keeps the law (R37). -/
theorem State.CoreOk.offerOverflows {s : State} (h : s.CoreOk) (page : Nat) (indices : List (Fin 4)) :
    (s.offerOverflows page indices).CoreOk := by
  induction indices generalizing s with
  | nil => exact h
  | cons i rest ih => exact ih (h.offer _ _ _)

/-- The latch of an unused index stands clear (R1, R37). -/
theorem State.latchesAfter_unused (s : State) {p : Page} (remain : RemainSource) {i : Fin 4} (hi : p.fields[i] = none) :
    (s.latchesAfter p remain)[i] = p.latches[i] := by
  have hshow : s.showingAt p remain i = none := by simp [State.showingAt, hi]
  match i with
  | 0 => simp only [State.latchesAfter, hshow]; rfl
  | 1 => simp only [State.latchesAfter, hshow]; rfl
  | 2 => simp only [State.latchesAfter, hshow]; rfl
  | 3 => simp only [State.latchesAfter, hshow]; rfl

/-- The latched page's overflow latches change, and the law stands (R37). -/
theorem State.CoreOk.updateLatches {s : State} (h : s.CoreOk) {p : Page} (hp : p ∈ s.store.pages) (remain : RemainSource) :
    (s.updateLatches p remain).CoreOk := by
  have hthere : s.store.pages.any (·.id == p.id) = true := any_id_iff.mpr ⟨p, hp, rfl⟩
  obtain ⟨⟨hid, hversion, hfields, hlatches⟩, hcells⟩ := h.pages.2.2 p hp
  have hsame (id : Nat) : (putPage { p with latches := s.latchesAfter p remain } s.store.pages).any (·.id == id) =
      s.store.pages.any (·.id == id) := by
    rw [any_putPage]
    cases hc : p.id == id
    · rfl
    · rw [← eq_of_beq hc, hthere]
      rfl
  refine State.CoreOk.offerOverflows (h.setStore (h.pages.putPage (p := { p with latches := s.latchesAfter p remain }) ?_ hcells ?_)
    (h.draftLaw.setPages ?_ ?_) hsame) _ _
  · exact ⟨hid, hversion, hfields, fun i hi => (s.latchesAfter_unused (p := p) remain hi).trans (hlatches i hi)⟩
  · exact fun habsent => absurd hthere (by simp [habsent])
  · rw [putPage_length h.pages.2.1, hthere]
    exact Nat.le_refl _
  · exact fun _ _ id _ => hsame id

/-- The boundary's latch keeps the law (R50, R33, R52). -/
theorem State.CoreOk.latchFrame {s : State} (h : s.CoreOk) : s.latchFrame.CoreOk := by
  unfold State.latchFrame
  dsimp only
  split
  · rename_i p hp
    obtain ⟨id, _, hfound⟩ := Option.bind_eq_some_iff.mp hp
    apply State.CoreOk.updateLatches
    · exact { h with }
    · exact (State.findPage_spec hfound).1
  · exact { h with }

/-- The cadence after a boundary keeps the law (R49). -/
theorem State.CoreOk.keepCadence {s : State} (h : s.CoreOk) : s.keepCadence.CoreOk := by
  obtain ⟨hcontrast, _⟩ := h.frame
  obtain ⟨hfields, _, hstate⟩ := h.calendar
  have hcount : s.frame.nextBoundary % Config.secondCounts < Config.secondCounts := Nat.mod_lt _ (by decide)
  obtain ⟨k, hk⟩ := s.frame.glass.rate.period_dvd
  have hpos := s.frame.glass.rate.period_pos
  have hdiv := Nat.div_lt_of_lt_mul (hcount.trans_eq hk)
  have hwithin := calc
    (s.frame.nextBoundary % Config.secondCounts / s.frame.glass.rate.period + 1) * s.frame.glass.rate.period
      ≤ k * s.frame.glass.rate.period := Nat.mul_le_mul_right _ hdiv
    _ = Config.secondCounts := by rw [hk, Nat.mul_comm]
  exact
    { h with
      frame := ⟨hcontrast, Nat.mul_pos (Nat.succ_pos _) hpos, hwithin, Nat.mul_mod_left _ _⟩
      calendar := ⟨hfields, hcount, hstate⟩ }

end Sys2Proof.Machine
end

section
/-! PROOFS. The remaining requests keep the law: reports, calendar, cells, glass, rotation, stack and schedule. -/

namespace Sys2Proof.Machine

open Sys2Proof

/-! ## The link's own requests and the report queue's (chapters 9 and 10) -/

/-- PING keeps the law (R169). -/
theorem execPing_keeps (tag : Byte) (bytes : List Byte) : KeepsLaw (execPing tag bytes) := keepsLaw_of_read _

/-- IDENTIFY keeps the law (R169). -/
theorem execIdentify_keeps (tag : Byte) : KeepsLaw (execIdentify tag) := keepsLaw_of_read _

/-- STATUS keeps the law (R170). -/
theorem execStatus_keeps (tag : Byte) : KeepsLaw (execStatus tag) := keepsLaw_of_read _

/-- RESTART keeps the law (R171). -/
theorem execRestart_keeps (tag : Byte) : KeepsLaw (execRestart tag) := keepsLaw_of_owner fun _ _ _ _ => trivial

/-- A report queue of legal records that has ATTN right keeps the law of a part that listens (R146, R153). -/
theorem State.CoreOk.setReports {s : State} (h : s.CoreOk) {q : ReportQueue} (hrecords : q.RecordsOk) (hattn : q.AttnOk)
    (haside : q.aside = s.reports.aside) : (s.setReports q).CoreOk :=
  let ⟨_, _, hasideOk, _, hempty⟩ := h.reports
  { h with reports := ⟨hrecords.1, hrecords.2, haside ▸ hasideOk, fun _ => hattn, fun hl => haside.trans (hempty hl)⟩ }

/-- Records may leave a legal queue (R149). -/
theorem recordsOk.sublist {records kept : List Report} (h : recordsOk records) (hs : kept.Sublist records) : recordsOk kept :=
  ⟨h.1.sublist hs, fun r hr => h.2 r (hs.subset hr)⟩

/-- FETCH_REPORTS keeps the law (R149). -/
theorem execFetchReports_keeps (tag max : Byte) : KeepsLaw (execFetchReports tag max) :=
  keepsLaw_of_owner fun _ s h _ => by
    obtain ⟨hlength, hrecords, -, -, -⟩ := h.reports
    dsimp only
    split
    · refine ⟨h.setReports ⟨?_, ?_⟩ (ReportQueue.examineAttn_attnOk _) rfl, rfl, rfl, rfl⟩
      · exact Nat.le_trans (by simp [ReportQueue.fetch]) hlength
      · exact hrecords.sublist (List.drop_sublist _ _)
    · trivial

/-- SET_REPORT_MASK keeps the law (R151). -/
theorem execSetReportMask_keeps (tag : Byte) (mask : Half) : KeepsLaw (execSetReportMask tag mask) :=
  keepsLaw_of_owner fun _ s h hl =>
    let ⟨hlength, hrecords, _, hattn, _⟩ := h.reports
    ⟨h.setReports (q := { s.reports with mask := mask }) ⟨hlength, hrecords⟩ (hattn hl) rfl, rfl, rfl, rfl⟩

/-- SET_ATTN keeps the law (R152, R153). -/
theorem execSetAttn_keeps (tag enable : Byte) : KeepsLaw (execSetAttn tag enable) :=
  keepsLaw_of_owner fun _ s h _ => by
    obtain ⟨hlength, hrecords, -, -, -⟩ := h.reports
    dsimp only
    split
    · exact ⟨h.setReports ⟨hlength, hrecords⟩ (ReportQueue.examineAttn_attnOk _) rfl, rfl, rfl, rfl⟩
    · trivial

/-! ## The calendar (chapter 6) -/

/-- A date and time that is read is valid, with its weekday (R96, R99). -/
theorem readTime_ok {year month day hour minute second : Byte} {f : CalendarFields}
    (h : readTime year month day hour minute second = some f) : f.Ok := by
  unfold readTime at h
  dsimp only at h
  split at h
  · rename_i hrange
    obtain ⟨hy, hmlow, hmhigh, hdlow, hdhigh, hhour, hminute, hsecond⟩ := hrange
    obtain rfl := Option.some.inj h
    exact ⟨Nat.le_add_right _ _, by dsimp only; omega, hmlow, hmhigh, hdlow, hdhigh, hhour, hminute, hsecond, rfl⟩
  · cases h

/-- A crystal that is not stopped runs (R92). -/
theorem Crystal.running_of_ne {c : Crystal} (h : c ≠ .stopped) : c = .running := by
  cases c
  · exact absurd rfl h
  · rfl

/-- SET_TIME keeps the law (R99, R100). -/
theorem execSetTime_keeps (tag year month day hour minute second hold : Byte) :
    KeepsLaw (execSetTime tag year month day hour minute second hold) :=
  keepsLaw_of_owner fun _ s h _ => by
    dsimp only
    split
    · rename_i f flag htime _
      split
      · trivial
      · rename_i hcrystal
        refine ⟨h.setTime (readTime_ok htime) (Crystal.running_of_ne hcrystal) flag, ?_, ?_, ?_⟩
        all_goals unfold State.setTime; split <;> simp [State.debts]
    · trivial

/-- RELEASE_TIME keeps the law (R102). -/
theorem execReleaseTime_keeps (tag : Byte) : KeepsLaw (execReleaseTime tag) :=
  keepsLaw_of_owner fun _ s h _ => by
    dsimp only
    split
    · exact ⟨h.releaseHold ‹_›, rfl, rfl, rfl⟩
    · trivial

/-- GET_TIME keeps the law (R107). -/
theorem execGetTime_keeps (tag : Byte) : KeepsLaw (execGetTime tag) := keepsLaw_of_read _

/-- SET_SYNC keeps the law (R103). -/
theorem execSetSync_keeps (tag enable : Byte) : KeepsLaw (execSetSync tag enable) :=
  keepsLaw_of_owner fun _ s h _ => by
    dsimp only
    split
    · exact ⟨h.setCalendar h.calendar h.minute, rfl, rfl, rfl⟩
    · trivial

/-! ## The glass (chapter 3) -/

/-- The law once the frame engine alone has changed. -/
theorem State.CoreOk.setFrame {s : State} (h : s.CoreOk) {x : FrameEngine} (hglass : x.glass.Ok) (hframe : x.Ok) :
    (s.setFrame x).CoreOk :=
  { h with glass := hglass, frame := hframe }

/-- Glass settings that are read are legal (R42, R43). -/
theorem readGlass_ok {duty rate : Byte} {g : Glass} (h : readGlass duty rate = some g) : g.Ok := by
  unfold readGlass at h
  split at h
  · split at h
    · obtain rfl := Option.some.inj h
      assumption
    · cases h
  · cases h

/-- Display settings that are read have a legal contrast (R45, R46). -/
theorem readDisplay_ok {mode invert contrast rowMask : Byte} {d : Display}
    (h : readDisplay mode invert contrast rowMask = some d) : d.contrast ≤ 15 := by
  unfold readDisplay at h
  split at h
  · split at h
    · obtain rfl := Option.some.inj h
      assumption
    · cases h
  · cases h

/-- SET_GLASS keeps the law (R43). -/
theorem execSetGlass_keeps (tag duty rate : Byte) : KeepsLaw (execSetGlass tag duty rate) :=
  keepsLaw_of_owner fun _ s h _ => by
    dsimp only
    split
    · trivial
    · split
      · trivial
      split
      · trivial
      · exact ⟨State.CoreOk.markDirty { h with glass := readGlass_ok ‹_› }, rfl, rfl, rfl⟩

/-- SET_DISPLAY keeps the law (R46). -/
theorem execSetDisplay_keeps (tag mode invert contrast rowMask : Byte) :
    KeepsLaw (execSetDisplay tag mode invert contrast rowMask) :=
  keepsLaw_of_owner fun _ s h _ => by
    obtain ⟨_, hboundary⟩ := h.frame
    dsimp only
    split
    · trivial
    · exact ⟨h.setFrame h.glass ⟨readDisplay_ok ‹_›, hboundary⟩, rfl, rfl, rfl⟩

/-- GET_DISPLAY keeps the law (R48). -/
theorem execGetDisplay_keeps (tag : Byte) : KeepsLaw (execGetDisplay tag) := keepsLaw_of_read _

/-! ## Cells and value registers (chapter 2) -/

/-- A number that is read as an index is that index. -/
theorem readIndex_spec {bound : Nat} {b : Byte} {i : Fin bound} (h : readIndex bound b = some i) : b.toNat = i.val := by
  unfold readIndex at h
  split at h
  · obtain rfl := Option.some.inj h
    rfl
  · cases h

/-- Whether a cell is undefined (R12 check 1). -/
def isUndefined (table : Vector (Option Cell) 16) (i : Nat) : Bool :=
  match table[i]? with
  | some (some _) => false
  | _ => true

/-- A cell is defined where the table holds one (R25). -/
theorem isUndefined_eq_false {table : Vector (Option Cell) 16} {i : Nat} :
    isUndefined table i = false ↔ ∃ cell, table[i]? = some (some cell) := by
  unfold isUndefined
  rcases table[i]? with _ | _ | cell <;> simp

/-- The cells a field list binds, in ascending index and from left to right (R12 check 1). -/
def FieldList.cellWalk (f : FieldList) : List Nat := f.bound.flatMap fun b => (List.range b.count).map (b.first + ·)

/-- The cells a field list binds (R12, R27). -/
theorem FieldList.mem_cellWalk {f : FieldList} {i : Nat} : i ∈ f.cellWalk ↔ ∃ b ∈ f.bound, ∃ k < b.count, b.first + k = i := by
  simp [FieldList.cellWalk]

/-- The first undefined cell is the first of the walk that is undefined (R12 check 1). -/
theorem firstUndefinedCell_eq (table : Vector (Option Cell) 16) (f : FieldList) :
    firstUndefinedCell table f = f.cellWalk.find? (isUndefined table) := rfl

/-- A field list binds defined cells alone exactly when every cell of a bound index is defined (R25). -/
theorem FieldList.cellsDefined_iff {f : FieldList} {table : Vector (Option Cell) 16} :
    f.CellsDefined table ↔ ∀ b ∈ f.bound, ∀ k < b.count, ∃ cell, table[b.first + k]? = some (some cell) := by
  rw [FieldList.CellsDefined, firstUndefinedCell_eq, List.find?_eq_none]
  simp only [FieldList.mem_cellWalk, Bool.not_eq_true, isUndefined_eq_false]
  exact ⟨fun h b hb k hk => h _ ⟨b, hb, k, hk, rfl⟩, fun h _ ⟨b, hb, k, hk, he⟩ => he ▸ h b hb k hk⟩

/-- Field lists stay on defined cells where each cell they cover stays defined (R25). -/
theorem FieldList.CellsDefined.mono {f : FieldList} {table table' : Vector (Option Cell) 16} (h : f.CellsDefined table)
    (hcells : ∀ i, f.covers i = true → (∃ cell, table[i]? = some (some cell)) → ∃ cell, table'[i]? = some (some cell)) :
    f.CellsDefined table' := by
  rw [FieldList.cellsDefined_iff] at h ⊢
  intro b hb k hk
  refine hcells _ ?_ (h b hb k hk)
  obtain ⟨i, hi⟩ := FieldList.mem_bound.mp hb
  refine List.any_eq_true.mpr ⟨some b, Vector.mem_toList_iff.mpr (hi ▸ by simp), ?_⟩
  simp [Binding.covers, hk]

/-- Drafts of pending commits stay on defined cells where each cell they cover stays defined (R25). -/
theorem Draft.CellsDefined.mono {d : Draft} {table table' : Vector (Option Cell) 16} (h : d.CellsDefined table)
    (hcells : ∀ i, d.pendingCovers i = true → (∃ cell, table[i]? = some (some cell)) → ∃ cell, table'[i]? = some (some cell)) :
    d.CellsDefined table' := by
  cases d with
  | free => trivial
  | editing b n => trivial
  | committing b => exact FieldList.CellsDefined.mono h hcells

/-- The law once the cell table has changed, where every cell in use stays defined (R25, R27). -/
theorem State.CoreOk.setTable {s : State} (h : s.CoreOk) {table : Vector (Option Cell) 16} (htable : cellTableOk table)
    (hcells : ∀ i, s.cellInUse i = true → (∃ cell, s.cells.table[i]? = some (some cell)) → ∃ cell, table[i]? = some (some cell)) :
    (s.setCells { s.cells with table := table }).CoreOk := by
  obtain ⟨hlength, hsorted, hall⟩ := h.pages
  refine { h with table := htable, pages := ⟨hlength, hsorted, fun p hp => ⟨(hall p hp).1, ?_⟩⟩, drafts := ?_ }
  · refine (hall p hp).2.mono fun i hi => hcells i ?_
    exact Bool.or_eq_true_iff.mpr (.inl (List.any_eq_true.mpr ⟨p, hp, hi⟩))
  · refine (State.draftsOk_iff _).mpr { h.draftLaw with cells := fun d => (h.draftLaw.cells d).mono fun i hi => hcells i ?_ }
    exact Bool.or_eq_true_iff.mpr (.inr (List.any_eq_true.mpr ⟨_, by simp, hi⟩))

/-- A cell table is legal exactly when each defined cell has one of the references a–g (R25). -/
theorem cellTableOk_iff {table : Vector (Option Cell) 16} :
    cellTableOk table ↔ ∀ (i : Fin 16) (c : Cell), table[i] = some c → (c.toList.take 7).any Option.isSome = true := by
  simp only [cellTableOk, List.mem_filterMap, Vector.mem_toList_iff, Vector.mem_iff_getElem, id, Fin.getElem_fin]
  constructor
  · exact fun h i c hc => h c ⟨_, ⟨i.val, i.isLt, rfl⟩, hc⟩
  · rintro h c ⟨x, ⟨i, hi, hx⟩, rfl⟩
    exact h ⟨i, hi⟩ c hx

/-- A legal table with one cell written (R26, R27). -/
theorem cellTableOk.set {table : Vector (Option Cell) 16} (h : cellTableOk table) (i : Fin 16) {x : Option Cell}
    (hx : ∀ c, x = some c → (c.toList.take 7).any Option.isSome = true) : cellTableOk (table.set i x) := by
  rw [cellTableOk_iff] at h ⊢
  intro j c
  rw [Fin.getElem_fin, Vector.getElem_set]
  split
  · exact hx c
  · exact h j c

/-- A cell that is read has one of the references a–g (R25, R26). -/
theorem readCell_ok {refs : List (Byte × Byte)} {c : Cell} (h : readCell refs = some c) :
    (c.toList.take 7).any Option.isSome = true := by
  unfold readCell at h
  split at h
  · split at h
    · obtain rfl := Option.some.inj h
      assumption
    · cases h
  · cases h

/-- SET_CELL keeps the law (R26). -/
theorem execSetCell_keeps (tag cell : Byte) (refs : List (Byte × Byte)) : KeepsLaw (execSetCell tag cell refs) :=
  keepsLaw_of_owner fun _ s h _ => by
    dsimp only
    split
    · rename_i i c _ hcell
      split
      · trivial
      · refine ⟨(h.setTable (h.table.set i fun _ hc => Option.some.inj hc ▸ readCell_ok hcell) fun j _ hj => ?_).markDirty,
          rfl, rfl, rfl⟩
        rw [Vector.getElem?_set]
        split
        · exact ⟨c, rfl⟩
        · exact hj
    · trivial

/-- CLEAR_CELL keeps the law (R27). -/
theorem execClearCell_keeps (tag cell : Byte) : KeepsLaw (execClearCell tag cell) :=
  keepsLaw_of_owner fun _ s h _ => by
    dsimp only
    split
    · trivial
    rename_i i _
    split
    · trivial
    split
    · trivial
    split
    · trivial
    rename_i hfree
    refine ⟨(h.setTable (h.table.set i (x := none) fun _ hc => (nomatch hc)) fun j hj hdefined => ?_).markDirty, rfl, rfl, rfl⟩
    rw [Vector.getElem?_set]
    split
    · rename_i hij
      exact absurd (hij ▸ hj) hfree
    · exact hdefined

/-- GET_CELL keeps the law (R28). -/
theorem execGetCell_keeps (tag cell : Byte) : KeepsLaw (execGetCell tag cell) :=
  keepsLaw_of_owner fun _ s h _ => by
    dsimp only
    split
    · exact .unchanged h _ _
    · trivial

/-- A register takes a value in range (R38). -/
theorem State.CoreOk.setRegister {s : State} (h : s.CoreOk) (r : Fin 8) {v : Int} (hlow : Config.minValue ≤ v)
    (hhigh : v ≤ Config.maxValue) : (s.setRegister r v).CoreOk := by
  refine { h with values := ?_ }
  have hvalues := forall_mem_toList_iff.mp h.values
  refine forall_mem_toList_iff.mpr fun i => ?_
  simp only [State.setRegister, State.setCells_cells, Fin.getElem_fin, Vector.getElem_set]
  split
  · exact ⟨hlow, hhigh⟩
  · exact hvalues i

/-- SET_VALUE keeps the law (R38). -/
theorem execSetValue_keeps (tag register : Byte) (value : Quad) : KeepsLaw (execSetValue tag register value) :=
  keepsLaw_of_owner fun _ s h _ => by
    dsimp only
    split
    · rename_i r _
      split
      · rename_i hrange
        exact ⟨h.setRegister r hrange.1 hrange.2, rfl, rfl, rfl⟩
      · trivial
    · trivial

/-- A clamped sum is in range (R39). -/
theorem clampValue_range (sum : Int) : Config.minValue ≤ (clampValue sum).1 ∧ (clampValue sum).1 ≤ Config.maxValue := by
  unfold clampValue
  split
  · exact ⟨Int.le_refl _, by decide⟩
  split
  · exact ⟨by decide, Int.le_refl _⟩
  · exact ⟨Int.not_lt.mp ‹_›, Int.not_lt.mp ‹_›⟩

/-- ADD_VALUE keeps the law (R39). -/
theorem execAddValue_keeps (tag register : Byte) (delta : Quad) : KeepsLaw (execAddValue tag register delta) :=
  keepsLaw_of_owner fun _ s h _ => by
    dsimp only
    split
    · rename_i r _
      obtain ⟨hlow, hhigh⟩ := clampValue_range (s.cells.values[r] + delta.toInt)
      exact ⟨h.setRegister r hlow hhigh, rfl, rfl, rfl⟩
    · trivial

/-- GET_VALUE keeps the law (R40). -/
theorem execGetValue_keeps (tag register : Byte) : KeepsLaw (execGetValue tag register) :=
  keepsLaw_of_owner fun _ s h _ => by
    dsimp only
    split
    · exact .unchanged h _ _
    · trivial

end Sys2Proof.Machine
end

section
/-! PROOFS. The requests of the rotation, the stack, the schedule and the archive keep the law (chapters 4, 5, 7 and 8). -/

namespace Sys2Proof.Machine

open Sys2Proof

/-! ## The rotation (chapter 4) -/

/-- A step that is read is legal (R59, R63). -/
theorem readStep_ok {p : Byte × Byte} {step : Step} (h : readStep p = some step) :
    idOk step.page ∧ 1 ≤ step.dwell ∧ step.dwell ≤ 255 := by
  unfold readStep at h
  split at h
  · rename_i page hpage
    split at h
    · cases h
    · rename_i hdwell
      obtain rfl := Option.some.inj h
      refine ⟨(readPageId_spec hpage).2, ?_, Nat.le_of_lt_succ p.2.isLt⟩
      exact Nat.one_le_iff_ne_zero.mpr fun hz => hdwell (BitVec.eq_of_toNat_eq hz)
  · cases h

/-- Steps that are read are as many as the pairs, each read from one (R63). -/
theorem mapM_readStep {pairs : List (Byte × Byte)} {steps : List Step} (h : pairs.mapM readStep = some steps) :
    steps.length = pairs.length ∧ ∀ step ∈ steps, ∃ p ∈ pairs, readStep p = some step := by
  induction pairs generalizing steps with
  | nil =>
    obtain rfl : [] = steps := by simpa using h
    simp
  | cons p rest ih =>
    obtain ⟨step, hstep, more, hmore, rfl⟩ : ∃ step, readStep p = some step ∧ ∃ more, rest.mapM readStep = some more ∧
        step :: more = steps := by simpa [List.mapM_cons, Option.bind_eq_some_iff] using h
    obtain ⟨hlength, hall⟩ := ih hmore
    refine ⟨by simp [hlength], fun x hx => ?_⟩
    rcases List.mem_cons.mp hx with rfl | hx
    · exact ⟨p, List.mem_cons_self, hstep⟩
    · obtain ⟨q, hq, hread⟩ := hall x hx
      exact ⟨q, List.mem_cons_of_mem _ hq, hread⟩

/-- A list of steps read from an accepted request is legal: its length rule allows at most 16 steps (R59, R161). -/
theorem steps_ok {tag list wrap : Byte} {pairs : List (Byte × Byte)} {steps : List Step} {flag : Bool}
    (hr : requestOk ⟨tag, 0x40, list :: wrap :: pairBytes pairs⟩) (h : pairs.mapM readStep = some steps) :
    RotationList.Ok ⟨steps, flag⟩ := by
  obtain ⟨hlength, hall⟩ := mapM_readStep h
  obtain ⟨-, rule, hrule, hallows⟩ := hr
  obtain rfl : (⟨2, 34, true⟩ : LengthRule) = rule := Option.some.inj hrule
  have hpairs := pairBytes_length pairs
  simp only [LengthRule.allows, List.length_cons, hpairs, Bool.and_eq_true, decide_eq_true_eq] at hallows
  refine ⟨?_, fun step hstep => ?_⟩
  · simp only [hlength, Config.maxSteps]
    omega
  · obtain ⟨p, _, hp⟩ := hall step hstep
    exact readStep_ok hp

/-- The lists with one of them written (R63). -/
theorem lists_set {lists : Vector RotationList 4} (h : ∀ x ∈ lists.toList, x.Ok) (l : Fin 4) {x : RotationList} (hx : x.Ok) :
    ∀ y ∈ (lists.set l x).toList, y.Ok := by
  rw [forall_mem_toList_iff] at h ⊢
  intro i
  rw [Fin.getElem_fin, Vector.getElem_set]
  split
  · exact hx
  · exact h i

/-- A list that the rotation does not walk is written, and the law stands (R63). -/
theorem State.CoreOk.setOtherList {s : State} (h : s.CoreOk) {l : Fin 4} (hl : s.rotation.active ≠ l) {x : RotationList}
    (hx : x.Ok) : (s.setRotation { s.rotation with lists := s.rotation.lists.set l x }).CoreOk := by
  have hactive : Rotation.activeList { s.rotation with lists := s.rotation.lists.set l x } = s.rotation.activeList := by
    simp [Rotation.activeList, Fin.val_ne_of_ne (Ne.symm hl)]
  have hpage : Rotation.currentPage { s.rotation with lists := s.rotation.lists.set l x } = s.rotation.currentPage := by
    simp only [Rotation.currentPage, hactive]
  refine { h with lists := lists_set h.lists l hx, seat := ?_, selection := ?_ }
  · have hseat := State.seatOk_iff.mp h.seat
    refine State.seatOk_iff.mpr ?_
    rw [State.setRotation_rotation, hactive]
    exact hseat
  · refine h.selection.trans ?_
    rw [State.setRotation_rotation, hpage]
    rfl

/-- SET_LIST keeps the law (R63). -/
theorem execSetList_keeps (tag list wrap : Byte) (steps : List (Byte × Byte)) : KeepsLaw (execSetList tag list wrap steps) :=
  keepsLaw_of_owner fun hr s h _ => by
    dsimp only
    split
    · rename_i l w ss _ _ hsteps
      have hlist : RotationList.Ok ⟨ss, w⟩ := steps_ok hr hsteps
      split
      · trivial
      split
      · have hstacked : ((s.setRotation { s.rotation with lists := s.rotation.lists.set l ⟨ss, w⟩ }).markDirty).StackedOk :=
          { h with lists := lists_set h.lists l hlist }
        exact ⟨hstacked.reseatAndOffer l, by simp [State.markDirty], by simp [State.markDirty],
          by simp [State.debts, State.markDirty]⟩
      · rename_i hother
        exact ⟨(h.setOtherList hother hlist).markDirty, rfl, rfl, rfl⟩
    · trivial

/-- GET_LIST keeps the law (R64). -/
theorem execGetList_keeps (tag list : Byte) : KeepsLaw (execGetList tag list) :=
  keepsLaw_of_owner fun _ s h _ => by
    dsimp only
    split
    · exact .unchanged h _ _
    · trivial

/-- SELECT_LIST keeps the law (R65). -/
theorem execSelectList_keeps (tag list : Byte) : KeepsLaw (execSelectList tag list) :=
  keepsLaw_of_owner fun _ s h _ => by
    dsimp only
    split
    · exact ⟨h.reseatAndOffer _, by simp, by simp, by simp [State.debts]⟩
    · trivial

/-- PAUSE_ROTATION keeps the law (R69). -/
theorem execPauseRotation_keeps (tag : Byte) : KeepsLaw (execPauseRotation tag) :=
  keepsLaw_of_owner fun _ _ h _ => ⟨h.setPaused true, rfl, rfl, rfl⟩

/-- RESUME_ROTATION keeps the law (R69). -/
theorem execResumeRotation_keeps (tag : Byte) : KeepsLaw (execResumeRotation tag) :=
  keepsLaw_of_owner fun _ _ h _ => ⟨h.setPaused false, rfl, rfl, rfl⟩

/-! ## The override stack (chapter 5) -/

/-- A priority that is read is legal (R74). -/
theorem readPriority_ok {b : Byte} {p : Nat} (h : readPriority b = some p) : 1 ≤ p ∧ p ≤ 7 := by
  unfold readPriority at h
  split at h
  · obtain rfl := Option.some.inj h
    assumption
  · cases h

/-- A two-byte field is at most 65 535. -/
theorem half_le (w : Half) : w.toNat ≤ 65535 := Nat.le_of_lt_succ w.isLt

/-- SHOW_NOW keeps the law (R76 to R78). -/
theorem execShowNow_keeps (tag page priority : Byte) (duration : Half) : KeepsLaw (execShowNow tag page priority duration) :=
  keepsLaw_of_owner fun _ s h _ => by
    dsimp only
    split
    · rename_i id p hid hp
      split
      · trivial
      rename_i hpresent
      obtain ⟨hlow, hhigh⟩ := readPriority_ok hp
      obtain ⟨_, hpageOk⟩ := readPageId_spec hid
      have hadmit := h.toBlocksOk.admitRecord (new := ⟨.host id, id, p, readDuration duration.toNat⟩)
        ⟨hpageOk, hlow, hhigh, fun r hr => readDuration_ok (half_le duration) hr, rfl⟩ (by simpa using hpresent)
      obtain ⟨hphase, hstore, -, -, -, -, -, harchive, hlink, -⟩ := s.admit_leaves ⟨.host id, id, p, readDuration duration.toNat⟩
      split
      · trivial
      · rename_i t _ heq
        rw [heq] at hadmit hphase hstore harchive hlink
        dsimp only at hstore harchive
        exact ⟨hadmit.recompute, by simpa using hphase, by simpa using hlink, by simp [State.debts, hstore, harchive]⟩
    · trivial

/-- CLEAR_OVERRIDE keeps the law (R81). -/
theorem execClearOverride_keeps (tag page : Byte) : KeepsLaw (execClearOverride tag page) :=
  keepsLaw_of_owner fun _ s h _ => by
    dsimp only
    split
    · trivial
    · split
      · exact ⟨(h.endOverrides _ _).recompute, by simp, by simp, by simp [State.debts]⟩
      · trivial

/-- CLEAR_BELOW keeps the law (R83). -/
theorem execClearBelow_keeps (tag priority : Byte) : KeepsLaw (execClearBelow tag priority) :=
  keepsLaw_of_owner fun _ s h _ => by
    dsimp only
    split
    · exact ⟨h.takeClearBelow _, by simp, by simp, by simp [State.debts]⟩
    · trivial

/-- LIST_OVERRIDES keeps the law (R87). -/
theorem execListOverrides_keeps (tag : Byte) : KeepsLaw (execListOverrides tag) := keepsLaw_of_read _

/-! ## The schedule (chapter 7) -/

/-- A pattern part that is read is in its range (R112). -/
theorem readPart_range {lo hi : Nat} {b : Byte} {part : Option Nat} (h : readPart lo hi b = some part) :
    ∀ n ∈ part, lo ≤ n ∧ n ≤ hi := by
  unfold readPart at h
  split at h
  · obtain rfl := Option.some.inj h
    exact fun n hn => nomatch hn
  · split at h
    · rename_i hrange
      obtain rfl := Option.some.inj h
      rintro n ⟨⟩
      exact hrange
    · cases h

/-- A weekday set whose eighth bit is clear is empty only as a whole (R112). -/
theorem weekdays_ne_zero {b : Byte} (htop : b.getLsbD 7 = false) (hb : b ≠ 0) : b.extractLsb' 0 7 ≠ 0 := by
  revert b
  decide

/-- A day part that is read is legal (R110, R112). -/
theorem readDayPart_ok {day weekdays : Byte} {d : DayPart} (h : readDayPart day weekdays = some d) : d.Ok := by
  unfold readDayPart at h
  split at h
  · cases h
  · rename_i part hpart
    split at h
    · cases h
    · rename_i htop
      split at h
      · obtain rfl := Option.some.inj h
        trivial
      · obtain rfl := Option.some.inj h
        exact readPart_range hpart _ rfl
      · rename_i hset
        obtain rfl := Option.some.inj h
        exact weekdays_ne_zero (Bool.eq_false_iff.mpr htop) (by simpa using hset)
      · cases h

/-- An action that is read is legal (R111). -/
theorem readAction_ok {kind arg1 arg2 : Byte} {duration : Half} {a : Action} (h : readAction kind arg1 arg2 duration = some a) :
    a.Ok := by
  unfold readAction at h
  split at h
  · split at h
    · rename_i hpage hpriority
      obtain rfl := Option.some.inj h
      obtain ⟨hlow, hhigh⟩ := readPriority_ok hpriority
      exact ⟨(readPageId_spec hpage).2, hlow, hhigh, half_le duration⟩
    · cases h
  · split at h
    · obtain ⟨l, -, rfl⟩ := Option.map_eq_some_iff.mp h
      trivial
    · cases h
  · split at h
    · obtain ⟨p, hp, rfl⟩ := Option.map_eq_some_iff.mp h
      exact readPriority_ok hp
    · cases h
  · split at h
    · obtain ⟨m, -, rfl⟩ := Option.map_eq_some_iff.mp h
      trivial
    · cases h
  · cases h

/-- An entry that is read is legal (R110 to R113). -/
theorem readEntry_ok {minute hour day weekdays month flags action arg1 arg2 : Byte} {duration : Half} {e : Entry}
    (h : readEntry minute hour day weekdays month flags action arg1 arg2 duration = some e) : e.Ok := by
  unfold readEntry at h
  split at h
  · rename_i hminute hhour hday hmonth haction
    dsimp only at h
    split at h
    · rename_i hcan
      obtain rfl := Option.some.inj h
      exact ⟨⟨fun n hn => (readPart_range hminute n hn).2, fun n hn => (readPart_range hhour n hn).2, readDayPart_ok hday,
        readPart_range hmonth, hcan.2⟩, readAction_ok haction⟩
    · cases h
  · cases h

/-- A slot is written once no walk is unfinished (R114 to R116, R125). -/
theorem State.CoreOk.putSlot {s : State} (h : s.CoreOk) (hwalk : s.schedule.walk = []) (i : Fin 32) {x : Slot} (hx : x.Ok) :
    (s.putSlot i x).CoreOk := by
  refine (h.setSlots (forall_mem_toList_iff.mpr fun j => ?_) fun f hf => ?_).markDirty
  · rw [Fin.getElem_fin, Vector.getElem_set]
    split
    · exact hx
    · exact forall_mem_toList_iff.mp h.slots j
  · rw [hwalk] at hf
    cases hf

/-- A request that the schedule takes after the walk keeps the law where its owner does at a finished walk (R125, R167). -/
theorem ownerOk_afterWalk {r : Request} {owner : State → Taken}
    (h : ∀ s : State, s.CoreOk → s.phase = .listening → s.schedule.walk = [] → TakenOk r.tag s (owner s)) :
    OwnerOk r (afterWalk owner) := by
  intro _ s hs hl
  have howner := h s.finishWalk hs.finishWalk (by simpa using hl) s.finishWalk_walk
  have hdebts : s.finishWalk.debts = s.debts := by simp [State.debts]
  unfold afterWalk
  cases hc : owner s.finishWalk with
  | refused result payload => trivial
  | restart => trivial
  | ok payload t =>
    rw [hc] at howner
    obtain ⟨ht, hphase, hlink, hdebtsT⟩ := howner
    exact ⟨ht, by simpa using hphase, by simpa using hlink, hdebtsT.trans hdebts⟩
  | deferred t =>
    rw [hc] at howner
    obtain ⟨ht, hphase, hlink, hdebtsT⟩ := howner
    exact ⟨ht, by simpa using hphase, by simpa using hlink, hdebts ▸ hdebtsT⟩

/-- SET_ENTRY keeps the law (R112, R114). -/
theorem execSetEntry_keeps (tag slot minute hour day weekdays month flags action arg1 arg2 : Byte) (duration : Half) :
    KeepsLaw (execSetEntry tag slot minute hour day weekdays month flags action arg1 arg2 duration) :=
  keepsLaw_of_owner <| ownerOk_afterWalk fun s h _ hw => by
    dsimp only
    split
    · rename_i i e _ hentry
      split
      · trivial
      · have hslot : (Slot.holds .armed e).Ok := ⟨readEntry_ok hentry, fun hx => nomatch hx⟩
        exact ⟨h.putSlot hw i hslot, rfl, rfl, rfl⟩
    · trivial

/-- CLEAR_ENTRY keeps the law (R115). -/
theorem execClearEntry_keeps (tag slot : Byte) : KeepsLaw (execClearEntry tag slot) :=
  keepsLaw_of_owner <| ownerOk_afterWalk fun s h _ hw => by
    dsimp only
    split
    · rename_i i _
      split
      · trivial
      · exact ⟨h.putSlot hw i (x := .free) trivial, rfl, rfl, rfl⟩
    · trivial

/-- ARM_ENTRY and DISARM_ENTRY keep the law (R116). -/
theorem TakenOk.rearm {tag : Byte} {s : State} (h : s.CoreOk) (hw : s.schedule.walk = []) (slot : Byte) {arming : Arming}
    (harming : arming ≠ .spent) : TakenOk tag s (s.rearm slot arming) := by
  unfold State.rearm
  split
  · trivial
  · rename_i i _
    split
    · trivial
    split
    · trivial
    · rename_i old e hold
      have hentry : (Slot.holds old e).Ok := hold ▸ forall_mem_toList_iff.mp h.slots i
      have hslot : (Slot.holds arming e).Ok := ⟨hentry.1, fun hx => absurd hx harming⟩
      exact ⟨h.putSlot hw i hslot, rfl, rfl, rfl⟩

/-- ARM_ENTRY keeps the law (R116). -/
theorem execArmEntry_keeps (tag slot : Byte) : KeepsLaw (execArmEntry tag slot) :=
  keepsLaw_of_owner <| ownerOk_afterWalk fun _ h _ hw => .rearm h hw slot (by decide)

/-- DISARM_ENTRY keeps the law (R116). -/
theorem execDisarmEntry_keeps (tag slot : Byte) : KeepsLaw (execDisarmEntry tag slot) :=
  keepsLaw_of_owner <| ownerOk_afterWalk fun _ h _ hw => .rearm h hw slot (by decide)

/-- GET_ENTRY keeps the law (R117). -/
theorem execGetEntry_keeps (tag slot : Byte) : KeepsLaw (execGetEntry tag slot) :=
  keepsLaw_of_owner <| ownerOk_afterWalk fun s h _ _ => by
    dsimp only
    split
    · exact .unchanged h _ _
    · trivial

/-! ## The archive (chapter 8) -/

/-- The current bank is the valid one with the greater number (R133). -/
theorem Archive.current_spec {a : Archive} {bank : BankId} {n : Nat} (h : a.current = some (bank, n)) :
    a.record bank = some n ∧ ∀ m ∈ a.record (otherBank bank), m ≤ n := by
  unfold Archive.current at h
  split at h
  · rename_i m k ha hb
    split at h
    · obtain ⟨rfl, rfl⟩ := Prod.mk.inj (Option.some.inj h)
      exact ⟨hb, fun x hx => by obtain rfl := Option.some.inj (ha.symm.trans hx); exact Nat.le_of_lt ‹_›⟩
    · obtain ⟨rfl, rfl⟩ := Prod.mk.inj (Option.some.inj h)
      exact ⟨ha, fun x hx => by obtain rfl := Option.some.inj (hb.symm.trans hx); exact Nat.le_of_not_lt ‹_›⟩
  · rename_i m ha hb
    obtain ⟨rfl, rfl⟩ := Prod.mk.inj (Option.some.inj h)
    exact ⟨ha, fun x hx => nomatch hb.symm.trans hx⟩
  · rename_i n ha hb
    obtain ⟨rfl, rfl⟩ := Prod.mk.inj (Option.some.inj h)
    exact ⟨hb, fun x hx => nomatch ha.symm.trans hx⟩
  · cases h

/-- Without a current bank neither is valid (R133). -/
theorem Archive.current_none {a : Archive} (h : a.current = none) (bank : BankId) : a.record bank = none := by
  unfold Archive.current at h
  split at h
  · split at h <;> cases h
  · cases h
  · cases h
  · rename_i ha hb
    cases bank
    · exact ha
    · exact hb

/-- The bank beside the other one is the bank itself. -/
@[simp] theorem otherBank_otherBank (bank : BankId) : otherBank (otherBank bank) = bank := by cases bank <;> rfl

/-- The other bank is another one. -/
theorem otherBank_ne (bank : BankId) : otherBank bank ≠ bank := by cases bank <;> decide

/-- There are a bank and the other one. -/
theorem bank_cases (target bank : BankId) : bank = target ∨ bank = otherBank target := by
  cases target <;> cases bank <;> decide

/-- A bank passes the start-up check with a number exactly when it holds that number's image (R142). -/
theorem BankContent.checked_iff {c : BankContent} {n : Nat} : c.checked = some n ↔ ∃ image, c = .marked n image true := by
  unfold BankContent.checked
  split <;> simp_all

/-- What a bank that passes its check holds is legal (R133). -/
theorem BankContent.Ok.marked {c : BankContent} (h : c.Ok) {n : Nat} {image : Collections} (hc : c = .marked n image true) :
    sequenceOk n ∧ image.Ok := by
  rw [hc] at h
  exact h

/-- The law of the banks and their records, bank by bank (R133). -/
structure Archive.BanksOk (a : Archive) : Prop where
  content : ∀ bank, (a.content bank).Ok
  record : ∀ bank, a.RecordOk bank
  recordsDiffer : ∀ bank, ∀ m ∈ a.record bank, ∀ n ∈ a.record (otherBank bank), m ≠ n
  checkedDiffer : ∀ bank, ∀ m ∈ (a.content bank).checked, ∀ n ∈ (a.content (otherBank bank)).checked, m ≠ n

/-- The law of the operation in progress (R134 to R140). -/
structure Archive.OpOk (a : Archive) : Prop where
  save : ∀ target n image tag, a.op = .save target n image tag →
    sequenceOk n ∧ image.Ok ∧ a.content target = .unmarked ∧ a.record target = none ∧
      (∀ m ∈ a.record (otherBank target), m < n) ∧ ∀ m ∈ (a.content (otherBank target)).checked, m < n
  restore : ∀ bank tag, a.op = .restore bank tag → (a.record bank).isSome = true

/-- The law of the archive is the law of its banks with that of its operation. -/
theorem Archive.ok_iff {a : Archive} : a.Ok ↔ a.BanksOk ∧ a.OpOk := by
  have hop : (match a.op with
      | .none => True
      | .save target n image _ =>
          sequenceOk n ∧ image.Ok ∧ a.content target = .unmarked ∧ a.record target = none ∧
            (∀ m ∈ a.record (otherBank target), m < n) ∧ ∀ m ∈ (a.content (otherBank target)).checked, m < n
      | .restore bank _ => (a.record bank).isSome = true) ↔ a.OpOk := by
    cases hc : a.op with
    | none => exact ⟨fun _ => ⟨by simp [hc], by simp [hc]⟩, fun _ => trivial⟩
    | save target n image tag =>
      refine ⟨fun h => ⟨?_, by simp [hc]⟩, fun h => h.save target n image tag hc⟩
      rintro _ _ _ _ hx
      obtain ⟨rfl, rfl, rfl, rfl⟩ := ArchiveOp.save.inj (hc.symm.trans hx)
      exact h
    | restore bank tag =>
      refine ⟨fun h => ⟨by simp [hc], ?_⟩, fun h => h.restore bank tag hc⟩
      rintro _ _ hx
      obtain ⟨rfl, rfl⟩ := ArchiveOp.restore.inj (hc.symm.trans hx)
      exact h
  constructor
  · rintro ⟨ha, hb, hra, hrb, hrecords, hchecked, h⟩
    refine ⟨⟨?_, ?_, ?_, ?_⟩, hop.mp h⟩
    · rintro (_ | _) <;> assumption
    · rintro (_ | _) <;> assumption
    · rintro (_ | _)
      · exact hrecords
      · exact fun m hm n hn => (hrecords n hn m hm).symm
    · rintro (_ | _)
      · exact hchecked
      · exact fun m hm n hn => (hchecked n hn m hm).symm
  · rintro ⟨h, ho⟩
    exact ⟨h.content .a, h.content .b, h.record .a, h.record .b, h.recordsDiffer .a, h.checkedDiffer .a, hop.mpr ho⟩

/-- An archive without an operation in progress meets the law of the operation. -/
theorem Archive.opOk_of_none {a : Archive} (h : a.op = .none) : a.OpOk :=
  ⟨fun _ _ _ _ hx => (nomatch h.symm.trans hx), fun _ _ hx => (nomatch h.symm.trans hx)⟩

/-- One bank takes a content with a record. -/
def Archive.setBank (a : Archive) (bank : BankId) (c : BankContent) (r : Option Nat) : Archive :=
  (a.setContent bank c).setRecord bank r

@[simp] theorem Archive.setBank_content (a : Archive) (bank : BankId) (c : BankContent) (r : Option Nat) :
    (a.setBank bank c r).content bank = c := by cases bank <;> rfl
@[simp] theorem Archive.setBank_record (a : Archive) (bank : BankId) (c : BankContent) (r : Option Nat) :
    (a.setBank bank c r).record bank = r := by cases bank <;> rfl
@[simp] theorem Archive.setBank_content_other (a : Archive) (bank : BankId) (c : BankContent) (r : Option Nat) :
    (a.setBank bank c r).content (otherBank bank) = a.content (otherBank bank) := by cases bank <;> rfl
@[simp] theorem Archive.setBank_record_other (a : Archive) (bank : BankId) (c : BankContent) (r : Option Nat) :
    (a.setBank bank c r).record (otherBank bank) = a.record (otherBank bank) := by cases bank <;> rfl

/-- One bank takes a legal content with a record that shows it (R133, R137). -/
theorem Archive.BanksOk.setBank {a : Archive} (h : a.BanksOk) {bank : BankId} {c : BankContent} {r : Option Nat} (hc : c.Ok)
    (hr : ∀ n ∈ r, sequenceOk n ∧ c.Shows n) (hrecords : ∀ m ∈ r, ∀ n ∈ a.record (otherBank bank), m ≠ n)
    (hchecked : ∀ m ∈ c.checked, ∀ n ∈ (a.content (otherBank bank)).checked, m ≠ n) : (a.setBank bank c r).BanksOk where
  content := by
    intro x
    rcases bank_cases bank x with rfl | rfl
    · rw [setBank_content]; exact hc
    · rw [setBank_content_other]; exact h.content _
  record := by
    intro x
    rcases bank_cases bank x with rfl | rfl
    · rw [RecordOk, setBank_content, setBank_record]; exact hr
    · rw [RecordOk, setBank_content_other, setBank_record_other]; exact h.record _
  recordsDiffer := by
    intro x
    rcases bank_cases bank x with rfl | rfl
    · simpa using hrecords
    · simpa using fun m hm n hn => (hrecords n hn m hm).symm
  checkedDiffer := by
    intro x
    rcases bank_cases bank x with rfl | rfl
    · simpa using hchecked
    · simpa using fun m hm n hn => (hchecked n hn m hm).symm

/-- A part that listens records each bank that passes its check as valid (R133, R142). -/
def Archive.Complete (a : Archive) : Prop := ∀ bank, ∀ n ∈ (a.content bank).checked, a.record bank = some n

/-- See `Archive.Complete`. -/
theorem State.recordsComplete_iff {s : State} : s.RecordsComplete ↔ (s.phase = .listening → s.archive.Complete) :=
  forall_congr' fun _ => ⟨fun h bank => by cases bank; exacts [h.1, h.2], fun h => ⟨h .a, h .b⟩⟩

/-- The law once the archive alone has changed, with the startup record as it was and no pending commit beside an operation. -/
theorem State.CoreOk.setArchive {s : State} (h : s.CoreOk) {a : Archive} (hstartup : a.startup.Ok) (hbanks : a.BanksOk)
    (hop : a.OpOk) (hcomplete : s.phase = .listening → a.Complete) (hidle : a.op = .none ∨ s.store.commits = []) :
    (s.setArchive a).CoreOk := by
  refine { h with startup := hstartup, archive := Archive.ok_iff.mpr ⟨hbanks, hop⟩,
                  records := State.recordsComplete_iff.mpr hcomplete, drafts := (State.draftsOk_iff _).mpr ?_ }
  rcases hidle with hnone | hnone
  · have hbusy : (s.setArchive a).archiveBusy = false := by simp [State.archiveBusy, hnone]
    rw [hbusy]
    exact h.draftLaw.setIdle
  · exact h.draftLaw.setBusy hnone _

/-- The laws of the banks, of the operation and of completeness, taken from the law of a part that listens. -/
theorem State.CoreOk.archiveLaws {s : State} (h : s.CoreOk) : s.archive.BanksOk ∧ s.archive.OpOk ∧
    (s.phase = .listening → s.archive.Complete) :=
  let ⟨hbanks, hop⟩ := Archive.ok_iff.mp h.archive
  ⟨hbanks, hop, State.recordsComplete_iff.mp h.records⟩

/-- The archive is busy exactly while an operation is in progress (R134, R138). -/
theorem State.archiveBusy_eq_false {s : State} : s.archiveBusy = false ↔ s.archive.op = .none := by
  simp [State.archiveBusy]

/-- One bank takes a content with a record, and completeness stands where the bank's record is that of its check (R142). -/
theorem Archive.Complete.setBank {a : Archive} (h : a.Complete) {bank : BankId} {c : BankContent} {r : Option Nat}
    (hc : ∀ n ∈ c.checked, r = some n) : (a.setBank bank c r).Complete := by
  intro x
  rcases bank_cases bank x with rfl | rfl
  · simpa using hc
  · simpa using h (otherBank bank)

/-- The target of a save is the bank beside the current one, with a number above it (R135). -/
theorem Archive.saveTarget_spec {a : Archive} (hbanks : a.BanksOk) (hcomplete : a.Complete)
    (hlast : ∀ bank, a.current ≠ some (bank, Config.maxSequence)) :
    sequenceOk a.saveTarget.2 ∧ (∀ m ∈ a.record (otherBank a.saveTarget.1), m < a.saveTarget.2) ∧
      ∀ m ∈ (a.content (otherBank a.saveTarget.1)).checked, m < a.saveTarget.2 := by
  have hnumbers : sequenceOk a.saveTarget.2 ∧ ∀ m ∈ a.record (otherBank a.saveTarget.1), m < a.saveTarget.2 := by
    unfold Archive.saveTarget
    cases hc : a.current with
    | none => exact ⟨⟨Nat.le_refl 1, by decide⟩, fun m hm => nomatch (Archive.current_none hc _).symm.trans hm⟩
    | some pair =>
      obtain ⟨bank, n⟩ := pair
      obtain ⟨hn, _⟩ := Archive.current_spec hc
      obtain ⟨⟨_, hhigh⟩, _⟩ := hbanks.record bank n hn
      have hne : n ≠ Config.maxSequence := fun he => hlast bank (he ▸ hc)
      refine ⟨⟨Nat.le_add_left 1 n, by dsimp only; omega⟩, fun m hm => ?_⟩
      rw [otherBank_otherBank, hn] at hm
      obtain rfl := Option.some.inj hm
      exact Nat.lt_succ_self n
  exact ⟨hnumbers.1, hnumbers.2, fun m hm => hnumbers.2 m (hcomplete _ m hm)⟩

/-- The archive takes an accepted SAVE (R134, R135). -/
theorem State.CoreOk.beginSave {s : State} (h : s.CoreOk) (hl : s.phase = .listening) (hcommits : s.store.commits = [])
    (hlast : ∀ bank, s.archive.current ≠ some (bank, Config.maxSequence)) (tag : Byte) : (s.beginSave tag).CoreOk := by
  obtain ⟨hbanks, _, hcomplete⟩ := h.archiveLaws
  have hs := Archive.saveTarget_spec hbanks (hcomplete hl) hlast
  have hset := hbanks.setBank (bank := s.archive.saveTarget.1) (c := .unmarked) (r := none) trivial (fun _ hn => (nomatch hn))
    (fun _ hm => (nomatch hm)) (fun _ hm => (nomatch hm))
  have hdone := (hcomplete hl).setBank (bank := s.archive.saveTarget.1) (c := .unmarked) (r := none) (fun _ hn => (nomatch hn))
  have hstartup : (s.archive.setBank s.archive.saveTarget.1 .unmarked none).startup = s.archive.startup := by
    cases s.archive.saveTarget.1 <;> rfl
  refine h.setArchive (hstartup ▸ h.startup) { hset with } ⟨?_, fun _ _ hx => nomatch hx⟩ (fun _ => hdone) (.inr hcommits)
  rintro _ _ _ _ ⟨⟩
  exact ⟨hs.1, h.snapshot, s.archive.setBank_content _ _ _, s.archive.setBank_record _ _ _,
    by simpa using (s.archive.setBank_record_other _ _ _) ▸ hs.2.1, by simpa using (s.archive.setBank_content_other _ _ _) ▸ hs.2.2⟩

end Sys2Proof.Machine
end

section
/-! PROOFS. The archive's requests and happenings, and the happenings of time and of the link, keep the law. -/

namespace Sys2Proof.Machine

open Sys2Proof

/-! ## The archive's requests (chapter 8) -/

/-- SAVE keeps the law (R134, R135). -/
theorem execSave_keeps (tag : Byte) : KeepsLaw (execSave tag) :=
  keepsLaw_of_owner <| ownerOk_afterWalk fun s h hl _ => by
    dsimp only
    split
    · trivial
    rename_i hidle
    split
    · trivial
    rename_i hempty
    have hop := State.archiveBusy_eq_false.mp (Bool.eq_false_iff.mpr hidle)
    have hcommits : s.store.commits = [] := by simpa using hempty
    have hbegun (hlast : ∀ bank, s.archive.current ≠ some (bank, Config.maxSequence)) :
        TakenOk tag s (.deferred (s.beginSave tag)) := by
      refine ⟨h.beginSave hl hcommits hlast tag, rfl, rfl, ?_⟩
      simp [State.debts, State.beginSave, hcommits, hop, ArchiveOp.tags]
    split
    · rename_i bank n hcurrent
      split
      · trivial
      · rename_i hn
        refine hbegun fun other ho => hn ?_
        exact (Prod.mk.inj (Option.some.inj (hcurrent.symm.trans ho))).2
    · rename_i hcurrent
      exact hbegun fun other ho => nomatch hcurrent.symm.trans ho

/-- RESTORE keeps the law (R138). -/
theorem execRestore_keeps (tag : Byte) : KeepsLaw (execRestore tag) :=
  keepsLaw_of_owner fun _ s h _ => by
    obtain ⟨hbanks, _, hcomplete⟩ := h.archiveLaws
    dsimp only
    split
    · trivial
    rename_i hidle
    split
    · trivial
    rename_i hempty
    have hop := State.archiveBusy_eq_false.mp (Bool.eq_false_iff.mpr hidle)
    have hcommits : s.store.commits = [] := by simpa using hempty
    split
    · trivial
    · rename_i bank n hcurrent
      refine ⟨h.setArchive h.startup { hbanks with } ⟨fun _ _ _ _ hx => (nomatch hx), ?_⟩ hcomplete (.inr hcommits), rfl, rfl, ?_⟩
      · rintro _ _ ⟨⟩
        exact Option.isSome_iff_exists.mpr ⟨n, (Archive.current_spec hcurrent).1⟩
      · simp [State.debts, hcommits, hop, ArchiveOp.tags]

/-- ARCHIVE_INFO keeps the law (R144). -/
theorem execArchiveInfo_keeps (tag : Byte) : KeepsLaw (execArchiveInfo tag) := keepsLaw_of_read _

/-- A startup record that is read is legal (R130, R131). -/
theorem readStartup_ok {list mode contrast : Byte} {mask : Half} {attn : Byte} {r : StartupRecord}
    (h : readStartup list mode contrast mask attn = some r) : r.Ok := by
  unfold readStartup at h
  split at h
  · split at h
    · obtain rfl := Option.some.inj h
      assumption
    · cases h
  · cases h

/-- SET_STARTUP keeps the law (R131). -/
theorem execSetStartup_keeps (tag list mode contrast : Byte) (mask : Half) (attn : Byte) :
    KeepsLaw (execSetStartup tag list mode contrast mask attn) :=
  keepsLaw_of_owner fun _ s h _ => by
    dsimp only
    split
    · trivial
    · split
      · trivial
      · exact ⟨State.CoreOk.markDirty { h with startup := readStartup_ok ‹_› }, rfl, rfl, rfl⟩

/-! ## The end of an archive operation (R137, R140) -/

/-- What stands cleared during a start, field by field (R172). -/
theorem State.Cleared.fields {s : State} (h : s.Cleared) :
    s.rotation.seat = none ∧ s.calendar.sync = false ∧ s.schedule.minuteStarts = [] ∧ s.schedule.walk = [] ∧
      s.archive.op = .none ∧ s.link.inbox = [] ∧ s.link.replies = [] ∧
      s.owed.rotation = 0 ∧ s.owed.stack = 0 ∧ s.owed.store = 0 :=
  let ⟨_, hseat, _, _, _, _, hsync, hstarts, hwalk, hop, _, _, _, _, hinbox, _, hreplies, _, hrotation, hstack, hstore⟩ := h
  ⟨hseat, hsync, hstarts, hwalk, hop, hinbox, hreplies, hrotation, hstack, hstore⟩

/-- An archive operation is in progress only at a part that listens (R143). -/
theorem State.Inv.listening_of_op {s : State} (h : s.Inv) (hop : s.archive.op ≠ .none) : s.phase = .listening := by
  by_contra hl
  obtain ⟨-, -, -, -, hnone, -⟩ := (h.cleared hl).fields
  exact hop hnone

/-- During an archive operation no commit is pending (R12, R134, R138). -/
theorem State.BaseOk.commits_of_op {s : State} (h : s.BaseOk) (hop : s.archive.op ≠ .none) : s.store.commits = [] :=
  h.draftLaw.idle (by simpa [State.archiveBusy] using hop)

/-- A deferred archive request is answered once its operation has ended (R137, R140, R165). -/
theorem State.ServingOk.endOp {s t : State} (h : s.ServingOk) (hop : s.archive.op ≠ .none) {reply : Reply}
    (hr : reply.restarts = false) (htag : s.archive.op.tags = [reply.tag]) (ht : t.CoreOk) (hphase : t.phase = s.phase)
    (hlink : t.link = s.link) (hcommits : t.store.commits = s.store.commits) (hnone : t.archive.op = .none) :
    (t.reply reply).Inv := by
  have hempty := h.commits_of_op hop
  refine State.ServingOk.inv { ht.setLink _ with phase := hphase.trans h.phase, link := ?_ }
  have hdebts : (t.reply reply).debts = [] := by simp [State.debts, hcommits, hempty, hnone, ArchiveOp.tags]
  rw [hdebts, State.reply_link, hlink]
  refine h.link.settle hr ?_
  simp [State.debts, hempty, htag]

/-- SAVE_END keeps the law (R137). -/
theorem execSaveEnd_keeps (verified : Bool) : KeepsLaw (execSaveEnd verified) := by
  intro s t h he
  unfold execSaveEnd at he
  split at he
  · rename_i target n image tag hop
    have hs := h.serving (h.listening_of_op (by simp [hop]))
    obtain ⟨hbanks, hopOk, hcomplete⟩ := hs.archiveLaws
    obtain ⟨hn, himage, -, -, hrecord, hchecked⟩ := hopOk.save target n image tag hop
    have hstartup (c : BankContent) (r : Option Nat) : (s.archive.setBank target c r).startup.Ok := by
      cases target <;> exact hs.startup
    have htags : s.archive.op.tags = [tag] := by rw [hop]; rfl
    split at he
    · cases he
      have hset := hbanks.setBank (bank := target) (c := .marked n image true) (r := some n) ⟨hn, himage⟩
        (by rintro _ ⟨⟩; exact ⟨hn, fun _ => rfl⟩) (by rintro _ ⟨⟩ m hm; exact (hrecord m hm).ne')
        (by rintro _ ⟨⟩ m hm; exact (hchecked m hm).ne')
      have hdone := (hcomplete hs.phase).setBank (bank := target) (c := .marked n image true) (r := some n) (fun _ hx => hx)
      exact hs.endOp (by simp [hop]) rfl htags
        (hs.setArchive (hstartup _ _) { hset with } (Archive.opOk_of_none rfl) (fun _ => hdone) (.inl rfl)) rfl rfl rfl rfl
    · cases he
      have hset := hbanks.setBank (bank := target) (c := .unmarked) (r := none) trivial (fun _ hx => (nomatch hx))
        (fun _ hx => (nomatch hx)) (fun _ hx => (nomatch hx))
      have hdone := (hcomplete hs.phase).setBank (bank := target) (c := .unmarked) (r := none) (fun _ hx => (nomatch hx))
      exact hs.endOp (by simp [hop]) rfl htags
        (hs.setArchive (hstartup _ _) { hset with } (Archive.opOk_of_none rfl) (fun _ => hdone) (.inl rfl)) rfl rfl rfl rfl
  · cases he
    exact h

/-- Legal collections are installed at a part with no pending commit and no walk unfinished: the laws of the blocks stand but for
those of the seat and the stack (R140 step 1, R142). -/
theorem State.BaseOk.install {s : State} (h : s.BaseOk) {c : Collections} (hc : c.Ok) (hcommits : s.store.commits = [])
    (hwalk : s.schedule.walk = []) : (s.install c).BaseOk := by
  obtain ⟨hglass, htable, hpages, hlists, hslots, hstartup⟩ := hc
  obtain ⟨_, _, hstarts⟩ := h.walk
  have hquiet : ∀ d : Fin 2, s.store.drafts[d].isCommitting = false := fun d => by
    have := (h.draftLaw.pending d).mp
    cases hd : s.store.drafts[d].isCommitting
    · rfl
    · simpa [hcommits] using this hd
  refine
    { h with
      glass := hglass, table := htable, pages := hpages.unlatched, lists := hlists, slots := hslots, startup := hstartup
      walk := ⟨by simp [State.install, hwalk], by simp [State.install, hwalk], hstarts⟩
      drafts := (State.draftsOk_iff _).mpr { h.draftLaw with news := ?_, cells := ?_, room := ?_ } }
  · intro e he
    rw [show (s.install c).store.commits = [] from hcommits] at he
    cases he
  · intro d
    have hd := hquiet d
    change (s.store.drafts[d]).CellsDefined c.cells
    cases hx : s.store.drafts[d] with
    | free => trivial
    | editing b n => trivial
    | committing b => rw [hx] at hd; cases hd
  · have hnew : (s.install c).store.pendingNew = 0 := by simp [PageStore.pendingNew, State.install, hcommits]
    rw [hnew]
    simpa [State.install] using hpages.1

/-- A freed draft changes the store's drafts and the report queue (R140 step 2). -/
theorem State.abandonDraft_leaves (s : State) (d : Fin 2) :
    (s.abandonDraft d).phase = s.phase ∧ (s.abandonDraft d).stack = s.stack ∧ (s.abandonDraft d).archive = s.archive ∧
      (s.abandonDraft d).link = s.link ∧ (s.abandonDraft d).store.commits = s.store.commits := by
  unfold State.abandonDraft
  split <;> simp [PageStore.setDraft]

/-- A draft in DRAFT state is freed, and the laws of the blocks stand (R140 step 2). -/
theorem State.BaseOk.abandonDraft {s : State} (h : s.BaseOk) (d : Fin 2) : (s.abandonDraft d).BaseOk := by
  unfold State.abandonDraft
  split
  · rename_i body idle hd
    have hfreed : (s.setStore (s.store.setDraft d .free)).BaseOk :=
      h.setStore h.pages (h.draftLaw.release (by rw [hd]; rfl))
    exact hfreed.offer _ _ _
  · exact h

/-- What the installation of a restored image leaves (R140). -/
theorem State.installRestored_leaves (s : State) (image : Collections) :
    (s.installRestored image).phase = s.phase ∧ (s.installRestored image).link = s.link ∧
      (s.installRestored image).store.commits = s.store.commits ∧
      (s.installRestored image).archive = { s.archive with startup := image.startup } := by
  obtain ⟨hphase0, -, harchive0, hlink0, hcommits0⟩ := (s.install image).abandonDraft_leaves 0
  obtain ⟨hphase1, -, harchive1, hlink1, hcommits1⟩ := ((s.install image).abandonDraft 0).abandonDraft_leaves 1
  unfold State.installRestored
  simp only [State.recompute_phase, State.reseat_phase, State.endOverrides_phase, State.recompute_link, State.reseat_link,
    State.endOverrides_link, State.recompute_store, State.reseat_store, State.endOverrides_store, State.recompute_archive,
    State.reseat_archive, State.endOverrides_archive, hphase1, hphase0, hlink1, hlink0, hcommits1, hcommits0, harchive1, harchive0]
  exact ⟨rfl, rfl, rfl, rfl⟩

/-- A restored image of legal collections is installed, and the law stands (R140). -/
theorem State.CoreOk.installRestored {s : State} (h : s.CoreOk) {image : Collections} (hc : image.Ok)
    (hcommits : s.store.commits = []) (hwalk : s.schedule.walk = []) : (s.installRestored image).CoreOk := by
  have hfreed := ((h.install hc hcommits hwalk).abandonDraft 0).abandonDraft 1
  have hstack : (((s.install image).abandonDraft 0).abandonDraft 1).stack = s.stack :=
    (State.abandonDraft_leaves _ 1).2.1.trans (State.abandonDraft_leaves _ 0).2.1
  obtain ⟨hlength, hids, _⟩ := h.stack
  have hemptied := hfreed.endOverrides (gone := fun _ => true) 5 (by rw [hstack]; exact hlength) (by rw [hstack]; exact hids)
    fun _ _ hx => nomatch hx
  exact (hemptied.reseat _).recompute

/-- A restore ends on a state that meets the law, and its reply follows (R140). -/
theorem State.ServingOk.endRestore {s u : State} (h : s.ServingOk) (hop : s.archive.op ≠ .none) {reply : Reply}
    (hr : reply.restarts = false) (htag : s.archive.op.tags = [reply.tag]) (hu : u.CoreOk) (hphase : u.phase = s.phase)
    (hlink : u.link = s.link) (hcommits : u.store.commits = s.store.commits) (dirty : Bool) :
    ((u.setArchive { u.archive with dirty := dirty, op := .none }).reply reply).Inv :=
  let ⟨hbanks, _, hcomplete⟩ := hu.archiveLaws
  h.endOp hop hr htag
    (hu.setArchive hu.startup { hbanks with } (Archive.opOk_of_none rfl) hcomplete (.inr (hcommits.trans (h.commits_of_op hop))))
    hphase hlink hcommits rfl

/-- RESTORE_COMPLETE keeps the law (R140). -/
theorem execRestoreComplete_keeps : KeepsLaw execRestoreComplete := by
  intro s t h he
  unfold execRestoreComplete at he
  split at he
  · rename_i bank tag hop
    have hbusy : s.archive.op ≠ .none := by simp [hop]
    have hs := h.serving (h.listening_of_op hbusy)
    have hcommits := hs.commits_of_op hbusy
    have htags : s.archive.op.tags = [tag] := by rw [hop]; rfl
    dsimp only at he
    split at he
    · rename_i n image hcontent
      obtain ⟨hbanks, -, -⟩ := hs.archiveLaws
      have himage := ((hbanks.content bank).marked hcontent).2
      have hinstalled := hs.toCoreOk.finishWalk.installRestored himage (by simpa using hcommits) s.finishWalk_walk
      obtain ⟨hphase, hlink, hstore, -⟩ := s.finishWalk.installRestored_leaves image
      have hended := hs.endRestore (reply := bankReply tag bank ((s.archive.record bank).getD n)) hbusy rfl htags hinstalled
        (hphase.trans s.finishWalk_phase) (hlink.trans s.finishWalk_link) (hstore.trans (by rw [State.finishWalk_store])) false
      exact Host.Outcome.next.inj he ▸ hended
    · exact Host.Outcome.next.inj he ▸ hs.endRestore hbusy rfl htags hs.toCoreOk rfl rfl rfl s.archive.dirty
  · exact Host.Outcome.next.inj he ▸ h

/-- A bank is damaged while its record stands (R133). -/
theorem Archive.setContent_eq (a : Archive) (bank : BankId) (c : BankContent) :
    a.setContent bank c = a.setBank bank c (a.record bank) := by
  cases bank <;> rfl

/-- A bank that holds an image is damaged: the laws of the archive stand (R133). -/
theorem Archive.damage_ok {a : Archive} (hbanks : a.BanksOk) (hop : a.OpOk) {bank : BankId} {n : Nat} {image : Collections}
    {agrees : Bool} (hc : a.content bank = .marked n image agrees) (m : Nat) :
    (a.setContent bank (.marked m image false)).BanksOk ∧ (a.setContent bank (.marked m image false)).OpOk ∧
      (a.Complete → (a.setContent bank (.marked m image false)).Complete) := by
  rw [Archive.setContent_eq]
  have hrecord : ∀ k ∈ a.record bank, sequenceOk k := fun k hk => (hbanks.record bank k hk).1
  have hsame : (a.setBank bank (.marked m image false) (a.record bank)).op = a.op := by cases bank <;> rfl
  refine ⟨hbanks.setBank trivial (fun k hk => ⟨hrecord k hk, fun hx => (nomatch hx)⟩) (hbanks.recordsDiffer bank)
    (fun _ hx => (nomatch hx)), ⟨?_, ?_⟩, fun hcomplete => hcomplete.setBank (fun _ hx => (nomatch hx))⟩
  · intro target k snapshot tag hx
    obtain ⟨hk, hsnapshot, hunmarked, hnone, hless, hchecked⟩ := hop.save target k snapshot tag (hsame.symm.trans hx)
    rcases bank_cases bank target with rfl | rfl
    · rw [hc] at hunmarked
      cases hunmarked
    · refine ⟨hk, hsnapshot, by simpa using hunmarked, by simpa using hnone, by simpa using hless, ?_⟩
      simp [BankContent.checked]
  · intro other tag hx
    have := hop.restore other tag (hsame.symm.trans hx)
    rcases bank_cases bank other with rfl | rfl
    · simpa using this
    · simpa using this

/-- The law of the starts, where nothing of what stands cleared has changed. -/
theorem State.StartOk.congr {s t : State} (h : s.StartOk) (hphase : t.phase = s.phase) (haside : t.reports.aside = s.reports.aside)
    (hcleared : s.Cleared → t.Cleared) : t.StartOk := by
  intro hl
  rw [hphase] at hl
  rw [haside]
  exact ⟨hcleared (h hl).1, (h hl).2⟩

/-- BANK_DAMAGED keeps the law (R133). -/
theorem execBankDamaged_keeps (bank : BankId) (sequence : Quad) : KeepsLaw (execBankDamaged bank sequence) := by
  intro s t h he
  unfold execBankDamaged at he
  split at he
  · rename_i n image agrees hcontent
    cases he
    obtain ⟨hbanks, hop, hcomplete⟩ := h.core.archiveLaws
    obtain ⟨hbanks', hop', hcomplete'⟩ := Archive.damage_ok hbanks hop hcontent sequence.toNat
    have hsame : (s.archive.setContent bank (.marked sequence.toNat image false)).op = s.archive.op := by cases bank <;> rfl
    have hstartup : (s.archive.setContent bank (.marked sequence.toNat image false)).startup.Ok := by
      cases bank <;> exact h.core.startup
    have hidle : s.archive.op = .none ∨ s.store.commits = [] := by
      by_cases hnone : s.archive.op = .none
      · exact .inl hnone
      · exact .inr (h.core.commits_of_op hnone)
    refine (h.core.setArchive hstartup hbanks' hop' (fun hl => hcomplete' (hcomplete hl)) (hsame ▸ hidle)).inv ?_ ?_
    · have hdebts : (s.setArchive (s.archive.setContent bank (.marked sequence.toNat image false))).debts = s.debts := by
        simp [State.debts, hsame]
      rw [hdebts]
      exact h.linkLaw
    · exact h.start.congr rfl rfl fun hc => by cases bank <;> exact hc
  · cases he
    exact h

end Sys2Proof.Machine
end

section
/-! PROOFS. The happenings of the link and of time, and the starts, keep the law. -/

namespace Sys2Proof.Machine

open Sys2Proof

/-! ## The law from its core -/

/-- The law after a happening that leaves the link and the deferred requests, from its core and the law of the starts. -/
theorem State.Inv.of_core {s t : State} (h : s.Inv) (ht : t.CoreOk) (hlink : t.link = s.link) (hdebts : t.debts = s.debts)
    (hstart : t.StartOk) : t.Inv :=
  ht.inv (by rw [hlink, hdebts]; exact h.linkLaw) hstart

/-- The law after a happening that leaves the link and the deferred requests, and that does nothing during a start. -/
theorem State.Inv.of_idle {s t : State} (h : s.Inv) (ht : t.CoreOk) (hphase : t.phase = s.phase) (hlink : t.link = s.link)
    (hdebts : t.debts = s.debts) (hidle : s.Cleared → t = s) : t.Inv := by
  by_cases hl : s.phase = .listening
  · exact h.of_core ht hlink hdebts (State.startOk_of_listening (hphase.trans hl))
  · rw [hidle (h.cleared hl)]
    exact h

/-! ## The link's happenings (chapter 10) -/

/-- BYTE_RECEIVED keeps the law (R156, R158). -/
theorem execByteReceived_keeps (byte : Byte) (stopBit : Bool) : KeepsLaw (execByteReceived byte stopBit) :=
  keepsLaw_of_next fun s h => by
    split
    · by_cases hl : s.phase = .listening
      · exact ((h.serving hl).takeByte byte).inv
      · rw [State.takeByte_starting (by simpa [State.listening] using hl)]
        exact h
    · exact h

/-- GAP_TIMER_EXPIRY keeps the law (R159). -/
theorem execGapTimerExpiry_keeps : KeepsLaw execGapTimerExpiry :=
  keepsLaw_of_next fun s h => by
    split
    · rename_i hrunning
      exact (((h.serving (State.listening_iff.mp hrunning.1)).receive (r := .hunt) trivial).offer _ _ _).inv
    · exact h

/-- REQUEST_HANDOFF keeps the law (R164). -/
theorem execRequestHandoff_keeps : KeepsLaw execRequestHandoff :=
  keepsLaw_of_next fun s h => by
    by_cases hl : s.phase = .listening
    · exact (h.serving hl).handOff.inv
    · obtain ⟨-, -, -, -, -, hinbox, -⟩ := (h.cleared hl).fields
      simpa [State.handOff, hinbox] using h

/-- REPLY_TRANSMITTED keeps the law (R168). -/
theorem execReplyTransmitted_keeps : KeepsLaw execReplyTransmitted := by
  intro s t h he
  unfold execReplyTransmitted at he
  split at he
  · rename_i r rest hreplies hdue
    have hl : s.phase = .listening := by
      by_contra hl
      obtain ⟨-, -, -, -, -, -, hnone, -⟩ := (h.cleared hl).fields
      rw [hnone] at hreplies
      cases hreplies
    have hs := h.serving hl
    exact Host.Outcome.next.inj he ▸ (hs.setLink (hs.link.transmitted hreplies hdue r.frameBytes)).inv
  · exact Host.Outcome.next.inj he ▸ h

/-! ## The calendar's happenings (chapter 6) -/

/-- A report of the oscillation monitor or of the calendar may be held aside during a start (R155). -/
theorem State.StartOk.offer {s : State} (h : s.StartOk) {k : Kind} (hk : k = .clockLost ∨ k = .calendarWrap)
    (subject detail : Nat) : (s.offer k subject detail).StartOk := by
  intro hl
  rw [State.offer_phase] at hl
  obtain ⟨hcleared, haside⟩ := h hl
  have hreports := State.offer_starting s (by simpa [State.listening] using hl) k subject detail
  have hsame : (s.offer k subject detail).reports.records = s.reports.records ∧
      (s.offer k subject detail).reports.attnLow = s.reports.attnLow := by
    rw [hreports]
    unfold ReportQueue.holdAside
    split <;> exact ⟨rfl, rfl⟩
  refine ⟨?_, ?_⟩
  · unfold State.Cleared at hcleared ⊢
    rw [hsame.1, hsame.2]
    simpa using hcleared
  · rw [hreports]
    unfold ReportQueue.holdAside
    split
    · intro r hr
      obtain ⟨q, hq, rfl⟩ := List.mem_map.mp hr
      split
      · exact haside q hq
      · exact haside q hq
    · intro r hr
      rcases List.mem_append.mp hr with hr | hr
      · exact haside r hr
      · exact List.mem_singleton.mp hr ▸ hk

/-- The calendar may change during a start, with the sync enable as it stands (R108). -/
theorem State.StartOk.setCalendar {s : State} (h : s.StartOk) {x : Calendar} (hsync : x.sync = s.calendar.sync) :
    (s.setCalendar x).StartOk :=
  h.congr rfl rfl fun hc => by
    unfold State.Cleared at hc ⊢
    rw [State.setCalendar_calendar, hsync]
    exact hc

/-- The frame engine's cadence and blink phase may change during a start (R58). -/
theorem State.StartOk.setFrame {s : State} (h : s.StartOk) {x : FrameEngine} (hdrive : x.drive = s.frame.drive)
    (hlatched : x.latched = s.frame.latched) : (s.setFrame x).StartOk :=
  h.congr rfl rfl fun hc => by
    unfold State.Cleared at hc ⊢
    rw [State.setFrame_frame, hdrive, hlatched]
    exact hc

/-- A prescaler restart is free of the law of the starts (R95). -/
theorem State.StartOk.restartPrescaler {s : State} (h : s.StartOk) : s.restartPrescaler.StartOk :=
  (h.setCalendar (x := { s.calendar with prescaler := 0 }) rfl).setFrame rfl rfl

/-- Without a walk or a minute start waiting there is nothing to take (R119). -/
theorem State.Cleared.takeWaiting {s : State} (h : s.Cleared) : s.takeWaiting = s :=
  let ⟨_, _, hstarts, hwalk, _⟩ := h.fields
  State.takeWaiting_of_idle hwalk hstarts

/-- The law of the starts once the minute starts that wait have been taken: during a start none waits (R97). -/
theorem State.StartOk.takeWaiting {s : State} (h : s.StartOk) : s.takeWaiting.StartOk := by
  intro hl
  rw [State.takeWaiting_phase] at hl
  rw [(h hl).1.takeWaiting]
  exact h hl

/-- SYNC_FALLING_EDGE keeps the law (R103). -/
theorem execSyncFallingEdge_keeps : KeepsLaw execSyncFallingEdge := by
  intro s t h he
  unfold execSyncFallingEdge at he
  split at he
  · rename_i timer hsync hheld
    obtain rfl := Host.Outcome.next.inj he
    refine h.of_core (h.core.releaseHold hheld) rfl rfl ?_
    exact (State.StartOk.setCalendar h.start (x := { s.calendar with state := .running }) rfl).restartPrescaler
  · exact Host.Outcome.next.inj he ▸ h

/-- CRYSTAL_STOPPED keeps the law (R92, R106). -/
theorem execCrystalStopped_keeps : KeepsLaw execCrystalStopped := by
  intro s t h he
  unfold execCrystalStopped at he
  split at he
  · obtain rfl := Host.Outcome.next.inj he
    obtain ⟨hfields, hprescaler, _⟩ := h.calendar
    have hcore : (s.takeWaiting.setCalendar { s.calendar with crystal := .stopped, state := .invalid }).CoreOk :=
      h.core.takeWaiting.setCalendar ⟨hfields, hprescaler, trivial⟩ (State.minuteOk_of_idle (by simp) (by simp))
    have hstart : (s.takeWaiting.setCalendar { s.calendar with crystal := .stopped, state := .invalid }).StartOk :=
      h.start.takeWaiting.setCalendar (by simp)
    exact h.of_core (hcore.offer _ _ _) (by simp) (by simp [State.debts]) (hstart.offer (.inl rfl) _ _)
  · exact Host.Outcome.next.inj he ▸ h

/-- CRYSTAL_RESUMED keeps the law (R92, R93). -/
theorem execCrystalResumed_keeps : KeepsLaw execCrystalResumed := by
  intro s t h he
  unfold execCrystalResumed at he
  split at he
  · rename_i hstopped
    obtain rfl := Host.Outcome.next.inj he
    obtain ⟨hfields, hprescaler, hstate⟩ := h.calendar
    have hinvalid : s.calendar.state = .invalid := by
      cases hc : s.calendar.state with
      | invalid => rfl
      | running => rw [hc, hstopped] at hstate; cases hstate
      | held timer => rw [hc, hstopped] at hstate; cases hstate.1
    have hcore : (s.setCalendar { s.calendar with crystal := .running }).CoreOk := by
      refine h.core.setCalendar ⟨hfields, hprescaler, ?_⟩ h.minute
      rw [hinvalid]
      trivial
    have hstart : (s.setCalendar { s.calendar with crystal := .running }).StartOk := h.start.setCalendar rfl
    exact h.of_core (hcore.restartPrescaler.offer _ _ _) (by simp) (by simp [State.debts])
      (hstart.restartPrescaler.offer (.inl rfl) _ _)
  · exact Host.Outcome.next.inj he ▸ h

/-- The ticks owed to the calendar may change during a start (R108). -/
theorem State.StartOk.setOwed {s : State} (h : s.StartOk) {o : Owed} (hrotation : o.rotation = s.owed.rotation)
    (hstack : o.stack = s.owed.stack) (hstore : o.store = s.owed.store) : (s.setOwed o).StartOk :=
  h.congr rfl rfl fun hc => by
    unfold State.Cleared at hc ⊢
    rw [State.setOwed_owed, hrotation, hstack, hstore]
    exact hc

/-- SECOND_TICK keeps the law (R94). -/
theorem execSecondTick_keeps : KeepsLaw execSecondTick := by
  intro s t h he
  obtain ⟨hfields, _, hstate⟩ := h.calendar
  have hcore : (s.setCalendar { s.calendar with prescaler := 0 }).CoreOk :=
    h.core.setCalendar ⟨hfields, (by decide : 0 < Config.secondCounts), hstate⟩ h.minute
  have hstart : (s.setCalendar { s.calendar with prescaler := 0 }).StartOk := h.start.setCalendar rfl
  unfold execSecondTick at he
  dsimp only at he
  split at he
  · rename_i hl
    obtain rfl := Host.Outcome.next.inj he
    exact h.of_core (hcore.setOwed _) rfl rfl (State.startOk_of_listening (State.listening_iff.mp hl))
  · obtain rfl := Host.Outcome.next.inj he
    exact h.of_core (hcore.setOwed _) rfl rfl (hstart.setOwed rfl rfl rfl)

/-- HALF_SECOND_TICK keeps the law (R57, R94). -/
theorem execHalfSecondTick_keeps (whole : Bool) : KeepsLaw (execHalfSecondTick whole) :=
  keepsLaw_of_next fun s h => by
    obtain ⟨hfields, hprescaler, hstate⟩ := h.calendar
    have hcount : (if whole then s.calendar.prescaler else Config.halfCounts) < Config.secondCounts := by
      split
      · exact hprescaler
      · decide
    have hcore := h.core.setCalendar (x := { s.calendar with
      prescaler := if whole then s.calendar.prescaler else Config.halfCounts }) ⟨hfields, hcount, hstate⟩ h.minute
    exact h.of_core { hcore with } rfl rfl ((h.start.setCalendar rfl).setFrame rfl rfl)

/-- A second tick at a RUNNING calendar keeps the law of the starts (R97, R108). -/
theorem State.StartOk.countSecond {s : State} (h : s.StartOk) : s.countSecond.StartOk := by
  have hadvanced : s.advanceFields.StartOk := by
    unfold State.advanceFields
    split
    · exact h.takeWaiting.setCalendar (by simp)
    · exact h.setCalendar rfl
  have hwrapped : s.advanceCalendar.StartOk := by
    unfold State.advanceCalendar
    split
    · exact hadvanced.offer (.inr rfl) _ _
    · exact hadvanced
  have hphase : s.countSecond.phase = s.phase := by simp
  rw [State.countSecond_eq] at hphase ⊢
  split
  · rename_i hl
    rw [if_pos hl] at hphase
    exact State.startOk_of_listening (hphase.trans (State.listening_iff.mp hl.2))
  · exact hwrapped

/-- A second tick leaves the deferred requests (R97). -/
theorem State.countSecond_debts (s : State) : s.countSecond.debts = s.debts := by
  have hop : s.countSecond.archive.op = s.archive.op := by
    have hadvanced : s.advanceCalendar.archive.op = s.archive.op := by
      unfold State.advanceCalendar State.advanceFields
      split <;> split <;> simp
    rw [State.countSecond_eq]
    split <;> simp [hadvanced]
  simp [State.debts, hop]

/-- CALENDAR_SECOND_COUNT keeps the law (R97). -/
theorem execCalendarSecondCount_keeps : KeepsLaw execCalendarSecondCount := by
  intro s t h he
  have hcore := h.core.setOwed s.owed.lessCalendar
  have hstart : (s.setOwed s.owed.lessCalendar).StartOk := h.start.setOwed rfl rfl rfl
  unfold execCalendarSecondCount at he
  split at he
  · exact Host.Outcome.next.inj he ▸ h
  split at he
  · rename_i hrunning
    obtain rfl := Host.Outcome.next.inj he
    exact h.of_core (hcore.countSecond hrunning) (by simp) (State.countSecond_debts _) hstart.countSecond
  · exact Host.Outcome.next.inj he ▸ h.of_core hcore rfl rfl hstart
  · exact Host.Outcome.next.inj he ▸ h

/-- A hold second at a part that listens keeps the law (R104). -/
theorem State.Inv.countHold {s : State} (h : s.Inv) {timer : Nat} (hheld : s.calendar.state = .held timer)
    (hl : s.listening = true) : ((s.setOwed s.owed.lessCalendar).countHold timer).Inv :=
  h.of_core ((h.core.setOwed s.owed.lessCalendar).countHold hheld) (by simp) (by simp [State.debts])
    (State.startOk_of_listening (by simpa using State.listening_iff.mp hl))

/-- HOLD_TIMER_COUNT keeps the law (R104, R108). -/
theorem execHoldTimerCount_keeps : KeepsLaw execHoldTimerCount := by
  intro s t h he
  unfold execHoldTimerCount at he
  split at he
  · exact Host.Outcome.next.inj he ▸ h
  split at he
  · rename_i timer hheld
    split at he
    · exact Host.Outcome.next.inj he ▸ h.countHold hheld ‹_›
    · exact Host.Outcome.next.inj he ▸ h.of_core (h.core.setOwed _) rfl rfl (h.start.setOwed rfl rfl rfl)
  · exact Host.Outcome.next.inj he ▸ h

/-- HOLD_EXPIRY keeps the law (R104). -/
theorem execHoldExpiry_keeps : KeepsLaw execHoldExpiry := by
  intro s t h he
  unfold execHoldExpiry at he
  split at he
  · rename_i timer hheld
    split at he
    · rename_i hdue
      exact Host.Outcome.next.inj he ▸ h.countHold hheld hdue.2.1
    · exact Host.Outcome.next.inj he ▸ h
  · exact Host.Outcome.next.inj he ▸ h

/-! ## The schedule's happenings (chapter 7) -/

/-- MINUTE_START keeps the law (R119). -/
theorem execMinuteStart_keeps : KeepsLaw execMinuteStart :=
  keepsLaw_of_next fun s h => by
    refine h.of_idle h.core.takeMinute (by simp) (by simp) (by simp [State.debts, State.takeMinute]) fun hc => ?_
    obtain ⟨-, -, hstarts, hwalk, -⟩ := hc.fields
    exact State.takeMinute_of_idle hwalk hstarts

/-- A hand-off of the walk keeps the law (R119, R126). -/
theorem State.Inv.handDue {s : State} (h : s.Inv) (isIt : Firing → Bool) : (s.handDue isIt).Inv := by
  refine h.of_idle (h.core.handDue isIt) (by simp) (by simp) ?_ fun hc => ?_
  · have hop : (s.handDue isIt).archive.op = s.archive.op := by
      unfold State.handDue
      split
      · split <;> simp
      · rfl
    simp [State.debts, hop]
  · obtain ⟨-, -, hstarts, hwalk, -⟩ := hc.fields
    have hbegin : s.beginWalk.schedule.walk = [] := by simp [State.beginWalk, hwalk, hstarts]
    simp [State.handDue, hbegin]

/-! ## Second ticks of the other recipients (R94) -/

/-- A second tick that a recipient takes only where it is owed keeps the law, where the recipient's part of it does. -/
theorem State.Inv.second {s : State} (h : s.Inv) {o : Owed} {t : State} (ht : (s.setOwed o).CoreOk → t.CoreOk)
    (hphase : t.phase = s.phase) (hlink : t.link = s.link) (hdebts : t.debts = s.debts) (howed : ¬s.Cleared) : t.Inv :=
  h.of_idle (ht (h.core.setOwed o)) hphase hlink hdebts fun hc => absurd hc howed

/-- DWELL_COUNT keeps the law (R66). -/
theorem execDwellCount_keeps : KeepsLaw execDwellCount := by
  intro s t h he
  unfold execDwellCount at he
  split at he
  · exact Host.Outcome.next.inj he ▸ h
  · rename_i howed
    refine Host.Outcome.next.inj he ▸ h.second (·.countDwell) (by simp) (by simp) (by simp [State.debts]) fun hc => howed ?_
    obtain ⟨-, -, -, -, -, -, -, hrotation, -⟩ := hc.fields
    exact hrotation

/-- ROTATION_ADVANCE keeps the law (R67). -/
theorem execRotationAdvance_keeps : KeepsLaw execRotationAdvance := by
  intro s t h he
  unfold execRotationAdvance at he
  split at he
  · rename_i seat hseat
    split at he
    · refine Host.Outcome.next.inj he ▸ h.second (·.countDwell) (by simp) (by simp) (by simp [State.debts]) fun hc => ?_
      obtain ⟨hnone, -⟩ := hc.fields
      rw [hnone] at hseat
      cases hseat
    · exact Host.Outcome.next.inj he ▸ h
  · exact Host.Outcome.next.inj he ▸ h

/-- OVERRIDE_COUNTDOWN keeps the law (R80). -/
theorem execOverrideCountdown_keeps : KeepsLaw execOverrideCountdown := by
  intro s t h he
  unfold execOverrideCountdown at he
  split at he
  · exact Host.Outcome.next.inj he ▸ h
  · rename_i howed
    refine Host.Outcome.next.inj he ▸ h.second (·.countOverrides) (by simp) (by simp) (by simp [State.debts]) fun hc => howed ?_
    obtain ⟨-, -, -, -, -, -, -, -, hstack, -⟩ := hc.fields
    exact hstack

/-- OVERRIDE_EXPIRY keeps the law (R80). -/
theorem execOverrideExpiry_keeps : KeepsLaw execOverrideExpiry := by
  intro s t h he
  unfold execOverrideExpiry at he
  split at he
  · rename_i howed
    refine Host.Outcome.next.inj he ▸ h.second (·.countOverrides) (by simp) (by simp) (by simp [State.debts]) fun hc => ?_
    obtain ⟨-, -, -, -, -, -, -, -, hstack, -⟩ := hc.fields
    omega
  · exact Host.Outcome.next.inj he ▸ h

/-- A second tick leaves the pending commits (R9). -/
theorem State.countDrafts_debts (s : State) : s.countDrafts.debts = s.debts := by
  have hone (u : State) (d : Fin 2) : (u.countDraft d).store.commits = u.store.commits := by
    unfold State.countDraft
    split
    · split <;> simp [PageStore.setDraft]
    · rfl
  simp [State.debts, State.countDrafts, hone]

/-- DRAFT_IDLE_COUNT keeps the law (R9). -/
theorem execDraftIdleCount_keeps : KeepsLaw execDraftIdleCount := by
  intro s t h he
  unfold execDraftIdleCount at he
  split at he
  · exact Host.Outcome.next.inj he ▸ h
  · rename_i howed
    refine Host.Outcome.next.inj he ▸ h.second (·.countDrafts) (by simp) (by simp) (State.countDrafts_debts _) fun hc => howed ?_
    obtain ⟨-, -, -, -, -, -, -, -, -, hstore⟩ := hc.fields
    exact hstore

/-- DRAFT_EXPIRY keeps the law (R9). -/
theorem execDraftExpiry_keeps : KeepsLaw execDraftExpiry := by
  intro s t h he
  unfold execDraftExpiry at he
  split at he
  · refine Host.Outcome.next.inj he ▸ h.second (·.countDrafts) (by simp) (by simp) (State.countDrafts_debts _) fun hc => ?_
    obtain ⟨-, -, -, -, -, -, -, -, -, hstore⟩ := hc.fields
    omega
  · exact Host.Outcome.next.inj he ▸ h

/-- FRAME_BOUNDARY keeps the law (R14, R49, R50, R58). -/
theorem execFrameBoundary_keeps : KeepsLaw execFrameBoundary := by
  intro s t h he
  have hkept : s.keepCadence.Inv :=
    h.of_core h.core.keepCadence rfl rfl ((h.start.setCalendar rfl).setFrame rfl rfl)
  unfold execFrameBoundary at he
  split at he
  · rename_i hl
    have hs : s.keepCadence.completeCommits.ServingOk := (hkept.serving (State.listening_iff.mp hl)).completeCommits
    have hlatched : s.keepCadence.completeCommits.latchFrame.ServingOk := by
      have hcommits (u : State) (p : Page) (remain : RemainSource) : (u.updateLatches p remain).store.commits = u.store.commits := by
        simp [State.updateLatches]
      have hstore (u : State) : u.latchFrame.store.commits = u.store.commits := by
        unfold State.latchFrame
        dsimp only
        split
        · exact hcommits _ _ _
        · rfl
      exact { hs.toCoreOk.latchFrame with
        phase := by simpa using hs.phase
        link := by simpa [State.debts, hstore] using hs.link }
    exact Host.Outcome.next.inj he ▸ hlatched.inv
  · exact Host.Outcome.next.inj he ▸ hkept

end Sys2Proof.Machine
end

section
/-! PROOFS. The starts keep the law, and with them every step does: `Obligations.StepKeepsTheLaw`. -/

namespace Sys2Proof.Machine

open Sys2Proof

/-! ## The beginning of a start (R143, R154, R172) -/

/-- The factory collections are legal (R129, R142). -/
theorem Collections.factory_ok : Collections.factory.Ok := by
  have hlists : ∀ l ∈ Collections.factory.lists.toList, l.Ok := by
    refine forall_mem_toList_iff.mpr fun i => ?_
    rw [Fin.getElem_fin, Collections.factory, Vector.getElem_replicate]
    exact ⟨Nat.zero_le _, List.forall_mem_nil _⟩
  have hslots : ∀ x ∈ Collections.factory.slots.toList, x.Ok := by
    refine forall_mem_toList_iff.mpr fun i => ?_
    rw [Fin.getElem_fin, Collections.factory, Vector.getElem_replicate]
    trivial
  have htable : cellTableOk Collections.factory.cells :=
    cellTableOk_iff.mpr fun i c hc => by
      rw [Fin.getElem_fin, Collections.factory, Vector.getElem_replicate] at hc
      cases hc
  exact ⟨⟨by decide, by decide⟩, htable, ⟨Nat.zero_le _, List.Pairwise.nil, List.forall_mem_nil _⟩, hlists, hslots,
    (by decide : 8 ≤ 15)⟩

/-- A store without a page and without an open draft (R24). -/
theorem PageStore.emptied_ok (table : Vector (Option Cell) 16) (busy : Bool) :
    PageStore.DraftsOk { pages := [], drafts := Vector.replicate 2 .free, commits := [] } table busy where
  legal d := by rw [Fin.getElem_fin, Vector.getElem_replicate]; trivial
  apart d e _ id hd := by
    rw [Fin.getElem_fin, Vector.getElem_replicate] at hd
    cases hd
  distinct := List.nodup_nil
  pending d := by
    rw [Fin.getElem_fin, Vector.getElem_replicate]
    exact ⟨fun hx => (nomatch hx), fun hx => (nomatch hx)⟩
  news := List.forall_mem_nil _
  cells d := by rw [Fin.getElem_fin, Vector.getElem_replicate]; trivial
  room := Nat.zero_le _
  idle _ := rfl

/-- The value registers hold 0 at a start (R38, R172). -/
theorem valuesOk_zero (table : Vector (Option Cell) 16) : CellUnit.ValuesOk ⟨table, Vector.replicate 8 0⟩ := by
  refine forall_mem_toList_iff.mpr fun i => ?_
  rw [Fin.getElem_fin, Vector.getElem_replicate]
  decide

/-- The live state cleared at the beginning of a start meets the core of the law (R143, R172). -/
theorem State.CoreOk.clearLive {s : State} (h : s.CoreOk) {phase : Phase} (hphase : phase ≠ .listening) :
    (s.clearLive phase).CoreOk := by
  obtain ⟨hbanks, _, _⟩ := h.archiveLaws
  obtain ⟨_, _, haside, _, _⟩ := h.reports
  exact
    { h with
      pages := ⟨Nat.zero_le _, List.Pairwise.nil, List.forall_mem_nil _⟩
      drafts := (State.draftsOk_iff _).mpr (PageStore.emptied_ok _ _)
      values := valuesOk_zero _
      walk := ⟨List.Pairwise.nil, List.forall_mem_nil _, List.forall_mem_nil _⟩
      minute := ⟨List.forall_mem_nil _, List.forall_mem_nil _⟩
      archive := Archive.ok_iff.mpr ⟨{ hbanks with }, Archive.opOk_of_none rfl⟩
      records := fun hl => absurd hl hphase
      reports := ⟨Nat.zero_le _, ⟨List.Pairwise.nil, List.forall_mem_nil _⟩, haside, fun hl => absurd hl hphase,
        fun hl => absurd hl hphase⟩
      stack := ⟨Nat.zero_le _, List.nodup_nil, List.forall_mem_nil _⟩
      seat := fun _ _ => rfl
      selection := rfl }

/-- Every start clears what stands cleared during it (R172). -/
theorem State.clearLive_cleared (s : State) (phase : Phase) : (s.clearLive phase).Cleared :=
  ⟨rfl, rfl, rfl, rfl, rfl, rfl, rfl, rfl, rfl, rfl, rfl, rfl, rfl, rfl, rfl, rfl, rfl, rfl, rfl, rfl, rfl⟩

/-- A link that is emptied meets its law (R172). -/
theorem Link.ok_emptied {l : Link} (hreceiver : l.receiver = .hunt) (hunanswered : l.unanswered = []) (hinbox : l.inbox = [])
    (hhanded : l.handed = none) (hreplies : l.replies = []) (hdue : l.restartDue = false) : l.Ok [] := by
  constructor <;> simp [hreceiver, Receiver.Ok, hunanswered, hinbox, hhanded, hreplies, hdue]

/-- During a start the link meets its law, owing nothing (R172). -/
theorem State.Cleared.linkOk {s : State} (h : s.Cleared) : s.link.Ok s.debts := by
  obtain ⟨hstore, -, -, -, -, -, -, -, -, hop, -, -, hreceiver, hunanswered, hinbox, hhanded, hreplies, hdue, -⟩ := h
  have hdebts : s.debts = [] := by simp [State.debts, hstore, hop, ArchiveOp.tags]
  rw [hdebts]
  exact Link.ok_emptied hreceiver hunanswered hinbox hhanded hreplies hdue

/-- The reports held aside during a start come from the oscillation monitor and the calendar; a part that listens holds none
(R155). -/
theorem State.Inv.aside_kinds {s : State} (h : s.Inv) : ∀ r ∈ s.reports.aside, r.kind = .clockLost ∨ r.kind = .calendarWrap := by
  by_cases hl : s.phase = .listening
  · obtain ⟨-, -, -, -, hempty⟩ := h.reports
    rw [hempty hl]
    exact List.forall_mem_nil _
  · exact (h.start hl).2

/-- A start begins, and the law stands (R143, R154, R172). -/
theorem State.Inv.clearLive {s : State} (h : s.Inv) {phase : Phase} (hphase : phase ≠ .listening) : (s.clearLive phase).Inv :=
  (h.core.clearLive hphase).inv (s.clearLive_cleared phase).linkOk fun _ => ⟨s.clearLive_cleared phase, h.aside_kinds⟩

/-! ## The state after reset -/

/-- The state after reset meets the core of the law. -/
theorem State.reset_core : State.reset.CoreOk := by
  obtain ⟨hglass, htable, hpages, hlists, hslots, hstartup⟩ := Collections.factory_ok
  exact
    { glass := hglass, table := htable, pages := hpages, lists := hlists, slots := hslots, startup := hstartup
      drafts := (State.draftsOk_iff _).mpr (PageStore.emptied_ok _ _)
      values := valuesOk_zero _
      frame := ⟨by decide, by decide, by decide, by decide⟩
      calendar := ⟨by unfold CalendarFields.Ok; decide, by decide, trivial⟩
      walk := ⟨List.Pairwise.nil, List.forall_mem_nil _, List.forall_mem_nil _⟩
      minute := ⟨List.forall_mem_nil _, List.forall_mem_nil _⟩
      archive := ⟨trivial, trivial, fun _ hn => (nomatch hn), fun _ hn => (nomatch hn), fun _ hn => (nomatch hn),
        fun _ hn => (nomatch hn), trivial⟩
      records := fun _ => ⟨fun _ hn => (nomatch hn), fun _ hn => (nomatch hn)⟩
      reports := ⟨by decide, ⟨by decide, by decide⟩, ⟨by decide, by decide⟩, fun _ => rfl, fun _ => rfl⟩
      stack := ⟨Nat.zero_le _, List.nodup_nil, List.forall_mem_nil _⟩
      seat := fun _ hs => (nomatch hs)
      selection := rfl }

/-- Settles O3: the factory collections are legal, the link is empty, and every other block stands at its reset value. -/
theorem resetMeetsTheLaw : Obligations.ResetMeetsTheLaw :=
  State.reset_core.inv (Link.ok_emptied rfl rfl rfl rfl rfl rfl) (State.startOk_of_listening rfl)

/-! ## The happenings of a start -/

/-- The archive of a cold start: the banks' contents, and nothing recorded of them yet (R154). -/
def Archive.cold (a : Archive) : Archive := { State.reset.archive with bankA := a.bankA, bankB := a.bankB }

/-- The banks of a cold start meet their law where they did before it (R133, R154). -/
theorem Archive.BanksOk.cold {a : Archive} (h : a.BanksOk) : a.cold.BanksOk := by
  have hcontent (bank : BankId) : a.cold.content bank = a.content bank := by cases bank <;> rfl
  have hrecord (bank : BankId) : a.cold.record bank = none := by cases bank <;> rfl
  refine ⟨fun bank => hcontent bank ▸ h.content bank, fun bank n hn => ?_, fun bank n hn => ?_, fun bank => ?_⟩
  · rw [hrecord] at hn
    cases hn
  · rw [hrecord] at hn
    cases hn
  · rw [hcontent, hcontent]
    exact h.checkedDiffer bank

/-- POWER_ON keeps the law (R154). -/
theorem execPowerOn_keeps (baudHigh resetnHigh : Bool) : KeepsLaw (execPowerOn baudHigh resetnHigh) := by
  intro s t h he
  obtain rfl := Host.Outcome.next.inj he
  have hphase : (if resetnHigh = true then Phase.starting .powerOn else .resetHeld .powerOn) ≠ .listening := by
    cases resetnHigh <;> decide
  have hcleared := State.reset.clearLive_cleared (if resetnHigh = true then .starting .powerOn else .resetHeld .powerOn)
  obtain ⟨hbanks, -, -⟩ := h.core.archiveLaws
  have hcold := State.reset_core.clearLive hphase
  have hcore := hcold.setArchive (a := s.archive.cold) hcold.startup hbanks.cold (Archive.opOk_of_none rfl)
    (fun hl => absurd hl hphase) (.inl rfl)
  exact State.CoreOk.inv { hcore with } (Link.ok_emptied rfl rfl rfl rfl rfl rfl) fun _ =>
    ⟨hcleared, List.forall_mem_nil _⟩

/-- RESETN_FALL keeps the law (R154, R172). -/
theorem execResetnFall_keeps : KeepsLaw execResetnFall := by
  intro s t h he
  unfold execResetnFall at he
  split at he
  · exact Host.Outcome.next.inj he ▸ h
  · exact Host.Outcome.next.inj he ▸ h.clearLive (by decide)

/-- The instant of reset release keeps the law (R108). -/
theorem State.Inv.releaseAtStart {s : State} (h : s.Inv) : s.releaseAtStart.Inv := by
  unfold State.releaseAtStart
  split
  · rename_i timer hheld
    exact h.of_core (h.core.releaseHold hheld) rfl rfl
      (State.StartOk.setCalendar h.start (x := { s.calendar with state := .running }) rfl).restartPrescaler
  · exact h

/-- The instant of reset release is in the phase it falls in (R108). -/
theorem State.releaseAtStart_phase (s : State) : s.releaseAtStart.phase = s.phase := by
  unfold State.releaseAtStart
  split <;> simp

/-- A start goes on in another of its phases (R172). -/
theorem State.Inv.setPhase {s : State} (h : s.Inv) (hs : s.phase ≠ .listening) {phase : Phase} (hp : phase ≠ .listening) :
    (s.setPhase phase).Inv := by
  obtain ⟨hlength, hrecords, haside, _, _⟩ := h.reports
  refine State.CoreOk.inv
    { h.core with
      records := fun hl => absurd hl hp
      reports := ⟨hlength, hrecords, haside, fun hl => absurd hl hp, fun hl => absurd hl hp⟩ } h.linkLaw fun _ => h.start hs

/-- RESETN_RELEASE keeps the law (R108, R172). -/
theorem execResetnRelease_keeps : KeepsLaw execResetnRelease := by
  intro s t h he
  unfold execResetnRelease at he
  split at he
  · rename_i cause hphase
    exact Host.Outcome.next.inj he ▸ h.releaseAtStart.setPhase (by simp [State.releaseAtStart_phase, hphase]) (by simp)
  · exact Host.Outcome.next.inj he ▸ h

/-- WARM_START_BY_RESTART keeps the law (R171). -/
theorem execWarmStartByRestart_keeps : KeepsLaw execWarmStartByRestart := by
  intro s t h he
  unfold execWarmStartByRestart at he
  split at he
  · exact Host.Outcome.next.inj he ▸ (h.clearLive (by decide)).releaseAtStart
  · exact Host.Outcome.next.inj he ▸ h

/-! ## The end of start-up (R142, R154, R155) -/

/-- The records of the start-up check show the images of the banks (R142 step 1). -/
theorem Archive.BanksOk.checkBanks {a : Archive} (h : a.BanksOk) : a.checkBanks.BanksOk ∧ a.checkBanks.Complete := by
  have hcontent (bank : BankId) : a.checkBanks.content bank = a.content bank := by cases bank <;> rfl
  have hrecord (bank : BankId) : a.checkBanks.record bank = (a.content bank).checked := by cases bank <;> rfl
  refine ⟨⟨fun bank => hcontent bank ▸ h.content bank, fun bank n hn => ?_, fun bank => ?_, fun bank => ?_⟩, fun bank n hn => ?_⟩
  · rw [hrecord] at hn
    rw [hcontent]
    obtain ⟨image, himage⟩ := BankContent.checked_iff.mp hn
    exact ⟨((h.content bank).marked himage).1, himage ▸ fun _ => rfl⟩
  · rw [hrecord, hrecord]
    exact h.checkedDiffer bank
  · rw [hcontent, hcontent]
    exact h.checkedDiffer bank
  · rw [hcontent] at hn
    rw [hrecord]
    exact hn

/-- The image a start-up restore installs is legal (R142 step 2). -/
theorem Archive.BanksOk.startImage {a : Archive} (h : a.BanksOk) {image : Collections}
    (hi : a.checkBanks.startImage = some image) : image.Ok := by
  unfold Archive.startImage at hi
  split at hi
  · rename_i bank n hcurrent
    obtain ⟨hrecord, -⟩ := Archive.current_spec hcurrent
    have hchecked : (a.content bank).checked = some n := by cases bank <;> exact hrecord
    obtain ⟨image', himage⟩ := BankContent.checked_iff.mp hchecked
    have hsame : a.checkBanks.content bank = a.content bank := by cases bank <;> rfl
    rw [hsame, himage] at hi
    obtain rfl := Option.some.inj hi
    exact ((h.content bank).marked himage).2
  · cases hi

/-- The start-up restore keeps the laws of the blocks but for the seat and the stack, and completes the records (R142). -/
theorem State.Inv.startupRestore {s : State} (h : s.Inv) (hs : s.phase ≠ .listening) :
    s.startupRestore.BaseOk ∧ s.startupRestore.archive.Complete := by
  obtain ⟨hstore, hrest⟩ := h.cleared hs
  obtain ⟨-, -, -, hwalk, hop, -⟩ := (h.cleared hs).fields
  have hcommits : s.store.commits = [] := by rw [hstore]
  obtain ⟨hbanks, -, -⟩ := h.core.archiveLaws
  obtain ⟨hchecked, hcomplete⟩ := hbanks.checkBanks
  have hbase := (h.core.setArchive (a := s.archive.checkBanks) h.core.startup hchecked (Archive.opOk_of_none hop) (fun _ => hcomplete)
    (.inl hop)).toBaseOk
  unfold State.startupRestore
  dsimp only
  split
  · rename_i image himage
    exact ⟨{ hbase.install (hbanks.startImage himage) hcommits hwalk with }, hcomplete⟩
  · exact ⟨{ hbase.install Collections.factory_ok hcommits hwalk with }, hcomplete⟩

/-- What the start-up restore leaves (R142). -/
theorem State.startupRestore_leaves (s : State) :
    s.startupRestore.phase = s.phase ∧ s.startupRestore.stack = s.stack ∧ s.startupRestore.reports = s.reports ∧
      s.startupRestore.link = s.link ∧ s.startupRestore.store.commits = s.store.commits ∧
      s.startupRestore.archive.op = s.archive.op := by
  unfold State.startupRestore
  dsimp only
  split <;> exact ⟨rfl, rfl, rfl, rfl, rfl, rfl⟩

/-- The reports held aside are settled, and the law of the records and ATTN stand (R155). -/
theorem ReportQueue.settleAside_ok {aside : List Report} (ha : ∀ r ∈ aside, 1 ≤ r.count ∧ r.count ≤ 255) {q : ReportQueue}
    (hrecords : q.RecordsOk) (hattn : q.AttnOk) (stamp : Option Stamp) :
    (q.settleAside stamp aside).RecordsOk ∧ (q.settleAside stamp aside).AttnOk ∧ (q.settleAside stamp aside).aside = q.aside := by
  induction aside generalizing q with
  | nil => exact ⟨hrecords, hattn, rfl⟩
  | cons r rest ih =>
    obtain ⟨hlow, hhigh⟩ := ha r List.mem_cons_self
    obtain ⟨hr, hat, haside⟩ := ih (fun x hx => ha x (List.mem_cons_of_mem _ hx))
      (hrecords.settle stamp r.kind r.subject r.detail hlow hhigh) (hattn.settle stamp r.kind r.subject r.detail r.count)
    exact ⟨hr, hat, haside.trans (ReportQueue.settle_aside _ _ _ _ _ _)⟩

/-- STARTED is the first record of an emptied queue: the queue is legal, and ATTN is examined (R147, R154). -/
theorem ReportQueue.settle_started {q : ReportQueue} (hq : q.records = []) (stamp : Option Stamp) (subject detail : Nat) :
    (q.settle stamp .started subject detail 1).RecordsOk ∧ (q.settle stamp .started subject detail 1).AttnOk := by
  refine ⟨ReportQueue.RecordsOk.settle ⟨by simp [hq], by simp [hq, recordsOk]⟩ stamp _ _ _ (Nat.le_refl 1) (by decide), ?_⟩
  rcases q.settle_cases stamp .started subject detail 1 with ⟨hoff, _⟩ | ⟨_, hany, _⟩ | ⟨_, _, hfull, _⟩ | ⟨_, _, _, he⟩
  · simp [kindEnabled] at hoff
  · simp [hq] at hany
  · simp [hq, Config.maxReports] at hfull
  · rw [he]
    exact ReportQueue.examineAttn_attnOk _

/-- STARTUP_COMPLETE keeps the law (R142, R154, R155, R172). -/
theorem execStartupComplete_keeps : KeepsLaw execStartupComplete := by
  intro s t h he
  unfold execStartupComplete at he
  split at he
  · rename_i cause hphase
    have hs : s.phase ≠ .listening := by simp [hphase]
    obtain ⟨hstore, -, -, hstack, -⟩ := h.cleared hs
    obtain ⟨-, -, -, -, hop, -⟩ := (h.cleared hs).fields
    obtain ⟨hbase, hcomplete⟩ := h.startupRestore hs
    obtain ⟨-, hstack1, hreports1, hlink1, hcommits1, hop1⟩ := s.startupRestore_leaves
    obtain ⟨hlength, hrecords, haside, -, -⟩ := h.reports
    obtain ⟨_, hboundary⟩ := hbase.frame
    obtain ⟨hqueue, hattn⟩ := ReportQueue.settle_started
      (q := { s.startupRestore.applyStartup.reports with records := [], lost := false, aside := [] }) rfl
      s.startupRestore.applyStartup.calendar.stamp cause.code s.startupRestore.applyStartup.archive.startOutcome.code
    have hcounts : ∀ r ∈ s.startupRestore.applyStartup.reports.aside, 1 ≤ r.count ∧ r.count ≤ 255 := by
      have hsame : s.startupRestore.applyStartup.reports.aside = s.reports.aside := by
        simp [State.applyStartup, hreports1]
      rw [hsame]
      exact haside.2
    obtain ⟨hsettled, hsettledAttn, hsettledAside⟩ :=
      ReportQueue.settleAside_ok hcounts hqueue hattn s.startupRestore.applyStartup.calendar.stamp
    rw [ReportQueue.settle_aside] at hsettledAside
    have hstacked : ((s.startupRestore.applyStartup.queueStarted cause
        s.startupRestore.applyStartup.archive.startOutcome).setPhase .listening).StackedOk :=
      { hbase with
        frame := ⟨hbase.startup, hboundary⟩
        records := State.recordsComplete_iff.mpr fun _ => hcomplete
        reports := ⟨hsettled.1, hsettled.2, hsettledAside ▸ ⟨List.Pairwise.nil, List.forall_mem_nil _⟩, fun _ => hsettledAttn,
          fun _ => hsettledAside⟩
        stack := by
          have hempty : s.startupRestore.stack.records = [] := by rw [hstack1, hstack]
          exact ⟨by rw [State.setPhase_stack]; exact hempty ▸ Nat.zero_le _, by
            rw [State.setPhase_stack]; exact hempty ▸ List.nodup_nil, by
            rw [State.setPhase_stack]; exact fun o ho => (nomatch hempty ▸ ho)⟩ }
    obtain rfl := Host.Outcome.next.inj he
    have hlink := (h.cleared hs).linkOk
    refine (hstacked.reseatAndOffer _).inv ?_ (State.startOk_of_listening (by simp))
    simpa [State.debts, State.queueStarted, State.applyStartup, hlink1, hcommits1, hop1] using hlink
  · exact Host.Outcome.next.inj he ▸ h

/-! ## Every step -/

/-- Every command's meaning keeps the law. -/
theorem exec_keeps (c : Instr) : KeepsLaw (exec c) := by
  cases c with
  | ping tag bytes => exact execPing_keeps tag bytes
  | identify tag => exact execIdentify_keeps tag
  | status tag => exact execStatus_keeps tag
  | restart tag => exact execRestart_keeps tag
  | fetchReports tag max => exact execFetchReports_keeps tag max
  | setReportMask tag mask => exact execSetReportMask_keeps tag mask
  | setAttn tag enable => exact execSetAttn_keeps tag enable
  | setTime tag year month day hour minute second hold => exact execSetTime_keeps tag year month day hour minute second hold
  | releaseTime tag => exact execReleaseTime_keeps tag
  | getTime tag => exact execGetTime_keeps tag
  | setSync tag enable => exact execSetSync_keeps tag enable
  | setGlass tag duty rate => exact execSetGlass_keeps tag duty rate
  | setDisplay tag mode invert contrast rowMask => exact execSetDisplay_keeps tag mode invert contrast rowMask
  | getDisplay tag => exact execGetDisplay_keeps tag
  | setCell tag cell refs => exact execSetCell_keeps tag cell refs
  | clearCell tag cell => exact execClearCell_keeps tag cell
  | getCell tag cell => exact execGetCell_keeps tag cell
  | setValue tag register value => exact execSetValue_keeps tag register value
  | addValue tag register delta => exact execAddValue_keeps tag register delta
  | getValue tag register => exact execGetValue_keeps tag register
  | openDraft tag page base => exact execOpenDraft_keeps tag page base
  | writeDots tag draft offset bytes => exact execWriteDots_keeps tag draft offset bytes
  | writeBlink tag draft offset bytes => exact execWriteBlink_keeps tag draft offset bytes
  | bindField tag draft index source register first count options =>
    exact execBindField_keeps tag draft index source register first count options
  | unbindField tag draft index => exact execUnbindField_keeps tag draft index
  | commit tag draft => exact execCommit_keeps tag draft
  | abandon tag draft => exact execAbandon_keeps tag draft
  | deletePage tag page => exact execDeletePage_keeps tag page
  | listPages tag => exact execListPages_keeps tag
  | readPage tag page part offset => exact execReadPage_keeps tag page part offset
  | setList tag list wrap steps => exact execSetList_keeps tag list wrap steps
  | getList tag list => exact execGetList_keeps tag list
  | selectList tag list => exact execSelectList_keeps tag list
  | pauseRotation tag => exact execPauseRotation_keeps tag
  | resumeRotation tag => exact execResumeRotation_keeps tag
  | showNow tag page priority duration => exact execShowNow_keeps tag page priority duration
  | clearOverride tag page => exact execClearOverride_keeps tag page
  | clearBelow tag priority => exact execClearBelow_keeps tag priority
  | listOverrides tag => exact execListOverrides_keeps tag
  | setEntry tag slot minute hour day weekdays month flags action arg1 arg2 duration =>
    exact execSetEntry_keeps tag slot minute hour day weekdays month flags action arg1 arg2 duration
  | clearEntry tag slot => exact execClearEntry_keeps tag slot
  | armEntry tag slot => exact execArmEntry_keeps tag slot
  | disarmEntry tag slot => exact execDisarmEntry_keeps tag slot
  | getEntry tag slot => exact execGetEntry_keeps tag slot
  | save tag => exact execSave_keeps tag
  | restore tag => exact execRestore_keeps tag
  | archiveInfo tag => exact execArchiveInfo_keeps tag
  | setStartup tag list mode contrast mask attn => exact execSetStartup_keeps tag list mode contrast mask attn
  | byteReceived byte stopBit => exact execByteReceived_keeps byte stopBit
  | gapTimerExpiry => exact execGapTimerExpiry_keeps
  | requestHandoff => exact execRequestHandoff_keeps
  | replyTransmitted => exact execReplyTransmitted_keeps
  | warmStartByRestart => exact execWarmStartByRestart_keeps
  | powerOn baudHigh resetnHigh => exact execPowerOn_keeps baudHigh resetnHigh
  | resetnFall => exact execResetnFall_keeps
  | resetnRelease => exact execResetnRelease_keeps
  | startupComplete => exact execStartupComplete_keeps
  | syncFallingEdge => exact execSyncFallingEdge_keeps
  | crystalStopped => exact execCrystalStopped_keeps
  | crystalResumed => exact execCrystalResumed_keeps
  | secondTick => exact execSecondTick_keeps
  | halfSecondTick whole => exact execHalfSecondTick_keeps whole
  | calendarSecondCount => exact execCalendarSecondCount_keeps
  | minuteStart => exact execMinuteStart_keeps
  | scheduleShow slot page priority duration => exact keepsLaw_of_next fun _ h => h.handDue _
  | scheduleSelect list => exact keepsLaw_of_next fun _ h => h.handDue _
  | scheduleClearBelow priority => exact keepsLaw_of_next fun _ h => h.handDue _
  | scheduleDisplay mode => exact keepsLaw_of_next fun _ h => h.handDue _
  | dwellCount => exact execDwellCount_keeps
  | rotationAdvance => exact execRotationAdvance_keeps
  | overrideCountdown => exact execOverrideCountdown_keeps
  | overrideExpiry => exact execOverrideExpiry_keeps
  | draftIdleCount => exact execDraftIdleCount_keeps
  | draftExpiry => exact execDraftExpiry_keeps
  | holdTimerCount => exact execHoldTimerCount_keeps
  | holdExpiry => exact execHoldExpiry_keeps
  | frameBoundary => exact execFrameBoundary_keeps
  | saveEnd verified => exact execSaveEnd_keeps verified
  | restoreComplete => exact execRestoreComplete_keeps
  | bankDamaged bank sequence => exact execBankDamaged_keeps bank sequence

/-- The law says nothing of the queue of commands. -/
theorem State.Inv.setPending {s : State} (h : s.Inv) (cs : List Instr) : (s.setPending cs).Inv :=
  (h.core.setPending cs).inv h.linkLaw h.start

/-- Settles O4: a step runs the meaning of the front command, and each meaning keeps the law (`exec_keeps`). -/
theorem stepKeepsTheLaw : Obligations.StepKeepsTheLaw := by
  unfold Obligations.StepKeepsTheLaw
  intro s t h he
  unfold step at he
  split at he
  · exact Host.Outcome.next.inj he ▸ h
  · exact exec_keeps _ _ _ (h.setPending _) he

end Sys2Proof.Machine
end

section
/-! PROOFS. The page store's requests, statement by statement (chapter 1): O32 to O37 and O39. -/

namespace Sys2Proof.Machine

open Sys2Proof

/-! ## The taking of a request by its owner -/

/-- A refused request is answered, and nothing else changes (R164, R167). -/
theorem takeRequest_refused {r : Request} {owner : State → Taken} {s : State} (h : s.link.handed = some r) {result : Result}
    {payload : List Byte} (ho : owner s.unhand = .refused result payload) :
    takeRequest r owner s = s.answered ⟨r.tag, result, payload, false⟩ := by
  rw [takeRequest_handed h, ho]
  rfl

/-- A request that is answered OK (R164). -/
theorem takeRequest_ok {r : Request} {owner : State → Taken} {s t : State} (h : s.link.handed = some r) {payload : List Byte}
    (ho : owner s.unhand = .ok payload t) : takeRequest r owner s = t.reply (okReply r.tag payload) := by
  rw [takeRequest_handed h, ho]
  rfl

/-- A request that is deferred (R165). -/
theorem takeRequest_deferred {r : Request} {owner : State → Taken} {s t : State} (h : s.link.handed = some r)
    (ho : owner s.unhand = .deferred t) : takeRequest r owner s = t := by
  rw [takeRequest_handed h, ho]
  rfl

/-- A number below the bound is read as its index. -/
theorem readIndex_eq {bound : Nat} {b : Byte} {i : Fin bound} (h : b.toNat = i.val) : readIndex bound b = some i := by
  simp [readIndex, h]

/-- A number that is not below the bound is no index. -/
theorem readIndex_none {bound : Nat} {b : Byte} (h : bound ≤ b.toNat) : readIndex bound b = none := by
  simp [readIndex, h]

/-- A page id in range is read (R1). -/
theorem readPageId_eq {b : Byte} (h0 : b ≠ 0) (h255 : b ≠ 255) : readPageId b = some b.toNat := by
  have hlow : b.toNat ≠ 0 := fun h => h0 (BitVec.eq_of_toNat_eq h)
  have hhigh : b.toNat ≠ 255 := fun h => h255 (BitVec.eq_of_toNat_eq h)
  have hbound := b.isLt
  exact if_pos ⟨by omega, by omega⟩

/-- A page id out of range is not read (R1). -/
theorem readPageId_none {b : Byte} (h : ¬(b ≠ 0 ∧ b ≠ 255)) : readPageId b = none := by
  refine if_neg fun ⟨hlow, hhigh⟩ => h ⟨?_, ?_⟩
  · rintro rfl
    exact absurd hlow (by decide)
  · rintro rfl
    exact absurd hhigh (by decide)

/-- A one-byte flag in range is read (R173). -/
theorem exists_readFlag {b : Byte} (h : b.toNat ≤ 1) : ∃ flag, readFlag b = some flag := by
  rcases Nat.le_one_iff_eq_zero_or_eq_one.mp h with h | h
  · exact ⟨false, if_pos (BitVec.eq_of_toNat_eq h)⟩
  · obtain rfl : b = 1 := BitVec.eq_of_toNat_eq h
    exact ⟨true, rfl⟩

/-- A one-byte flag out of range is not read (R173). -/
theorem readFlag_none {b : Byte} (h : ¬b.toNat ≤ 1) : readFlag b = none := by
  have h0 : b ≠ 0 := by rintro rfl; exact h (by decide)
  have h1 : b ≠ 1 := by rintro rfl; exact h (by decide)
  rw [readFlag, if_neg h0, if_neg h1]

/-! ## The draft checks (R4) -/

/-- A draft number above 1 is refused (R4). -/
theorem State.withDraft_badField {s : State} {draft : Byte} (h : 1 < draft.toNat) (act : Fin 2 → DraftBody → Taken) :
    s.withDraft draft act = .no .badField := by
  simp only [State.withDraft, readIndex_none h]

/-- A FREE draft is refused (R4). -/
theorem State.withDraft_free {s : State} {draft : Byte} {d : Fin 2} (h : draft.toNat = d.val) (hd : s.store.drafts[d] = .free)
    (act : Fin 2 → DraftBody → Taken) : s.withDraft draft act = .no .noSuch := by
  simp only [State.withDraft, readIndex_eq h, hd]

/-- A COMMITTING draft is refused (R4). -/
theorem State.withDraft_committing {s : State} {draft : Byte} {d : Fin 2} {body : DraftBody} (h : draft.toNat = d.val)
    (hd : s.store.drafts[d] = .committing body) (act : Fin 2 → DraftBody → Taken) :
    s.withDraft draft act = .no .wrongState := by
  simp only [State.withDraft, readIndex_eq h, hd]

/-- A draft in DRAFT state passes the checks (R4). -/
theorem State.withDraft_editing {s : State} {draft : Byte} {d : Fin 2} {body : DraftBody} {idle : Nat} (h : draft.toNat = d.val)
    (hd : s.store.drafts[d] = .editing body idle) (act : Fin 2 → DraftBody → Taken) : s.withDraft draft act = act d body := by
  simp only [State.withDraft, readIndex_eq h, hd]

/-- The meaning of a request whose owner makes the draft checks first. -/
theorem draftRequest_refuses {tag code draft : Byte} {payload : List Byte} {act : State → Fin 2 → DraftBody → Taken} {s : State}
    (h : s.link.handed = some ⟨tag, code, payload⟩) :
    (1 < draft.toNat → takeRequest ⟨tag, code, payload⟩ (fun s => s.withDraft draft (act s)) s =
      s.answered (refusal tag .badField)) ∧
    (∀ d : Fin 2, draft.toNat = d.val → s.store.drafts[d] = .free →
      takeRequest ⟨tag, code, payload⟩ (fun s => s.withDraft draft (act s)) s = s.answered (refusal tag .noSuch)) ∧
    (∀ (d : Fin 2) (body : DraftBody), draft.toNat = d.val → s.store.drafts[d] = .committing body →
      takeRequest ⟨tag, code, payload⟩ (fun s => s.withDraft draft (act s)) s = s.answered (refusal tag .wrongState)) :=
  ⟨fun hdraft => takeRequest_refused h (State.withDraft_badField hdraft _),
    fun _ hdraft hd => takeRequest_refused h (State.withDraft_free (s := s.unhand) hdraft hd _),
    fun _ _ hdraft hd => takeRequest_refused h (State.withDraft_committing (s := s.unhand) hdraft hd _)⟩

/-- Settles O32: each of the six requests is taken through `State.withDraft`, whose checks come first. -/
theorem draftChecksComeFirst : Obligations.DraftChecksComeFirst := by
  unfold Obligations.DraftChecksComeFirst
  intro tag draft offset index source register first count options bytes s c hc hhanded
  have hlift {o : State} {x : State} : o = x → Host.Outcome.next (φ := Fault) (ρ := Refusal) o = .next x := congrArg _
  simp only [List.mem_cons, List.not_mem_nil, or_false] at hc
  rcases hc with rfl | rfl | rfl | rfl | rfl | rfl
  all_goals
    obtain ⟨_, ⟨⟩, hr⟩ := hhanded
    obtain ⟨hbad, hfree, hcommitting⟩ := draftRequest_refuses hr
    exact ⟨fun h => hlift (hbad h), fun d h hd => hlift (hfree d h hd), fun d body h hd => hlift (hcommitting d body h hd)⟩

/-! ## OPEN_DRAFT (R5, R6) -/

/-- What OPEN_DRAFT makes of a page id and a base in range (R5 orders 2 to 5, R6). -/
def State.openDraft (s : State) (id : Nat) (copy : Bool) : Taken :=
  if s.restoring then .no .archiveBusy
  else if s.store.drafts.toList.any (fun d => d.target == some id) then .no .inUse
  else
    match s.store.freeDraft with
    | none => .no .noRoom
    | some d =>
        match s.draftBase id copy with
        | none => .no .noSuch
        | some body => .ok [byteOf d.val] (s.setStore (s.store.setDraft d (.editing body 0)))

/-- OPEN_DRAFT reads its page id and its base, and opens (R5). -/
theorem exec_openDraft (tag page base : Byte) (s : State) :
    exec (.openDraft tag page base) s =
      .next (takeRequest ⟨tag, 0x30, [page, base]⟩ (fun s =>
        match readPageId page, readFlag base with
        | some id, some copy => s.openDraft id copy
        | _, _ => .no .badField) s) := rfl

/-- A restore is in progress exactly where the operation is one (R139). -/
theorem State.restoring_iff {s : State} : s.restoring = true ↔ ∃ bank tag, s.archive.op = .restore bank tag := by
  unfold State.restoring
  cases s.archive.op <;> simp

/-- An entry of a vector is found by its index. -/
theorem any_toList_iff {α : Type} {n : Nat} {v : Vector α n} {p : α → Bool} :
    v.toList.any p = true ↔ ∃ i : Fin n, p v[i] = true := by
  simp only [List.any_eq_true, Vector.mem_toList_iff, Vector.mem_iff_getElem, Fin.getElem_fin]
  constructor
  · rintro ⟨x, ⟨i, hi, rfl⟩, hx⟩
    exact ⟨⟨i, hi⟩, hx⟩
  · rintro ⟨i, hi⟩
    exact ⟨_, ⟨i.val, i.isLt, rfl⟩, hi⟩

/-- A draft has the target (R5 order 3). -/
theorem drafts_any_target {drafts : Vector Draft 2} {id : Nat} :
    drafts.toList.any (fun d => d.target == some id) = true ↔ ∃ d : Fin 2, drafts[d].target = some id := by
  simp only [any_toList_iff, beq_iff_eq]

/-- No draft slot is FREE (R6). -/
theorem PageStore.freeDraft_none {st : PageStore} (h0 : st.drafts[0] ≠ .free) (h1 : st.drafts[1] ≠ .free) :
    st.freeDraft = none := by
  rw [PageStore.freeDraft, if_neg h0, if_neg h1]

/-- The lowest FREE slot is the one that is opened (R6). -/
theorem PageStore.freeDraft_eq {st : PageStore} {d : Fin 2} (hd : st.drafts[d] = .free)
    (hlow : ∀ e : Fin 2, e < d → st.drafts[e] ≠ .free) : st.freeDraft = some d := by
  match d with
  | 0 => exact if_pos hd
  | 1 => exact (if_neg (hlow 0 (by decide))).trans (if_pos hd)

/-- Where not both slots are taken, one is FREE (R6). -/
theorem PageStore.freeDraft_isSome {st : PageStore} (h : ¬(st.drafts[0] ≠ .free ∧ st.drafts[1] ≠ .free)) :
    ∃ d, st.freeDraft = some d := by
  unfold PageStore.freeDraft
  by_cases h0 : st.drafts[0] = .free
  · exact ⟨0, if_pos h0⟩
  · have h1 : st.drafts[1] = .free := not_not.mp fun h1 => h ⟨h0, h1⟩
    exact ⟨1, (if_neg h0).trans (if_pos h1)⟩

/-- Settles O33: the checks of R5 in their order, and then the lowest FREE slot is opened. -/
theorem openDraftTakesTheLowestSlot : Obligations.OpenDraftTakesTheLowestSlot := by
  unfold Obligations.OpenDraftTakesTheLowestSlot
  rintro tag page base s ⟨_, ⟨⟩, hr⟩ c inRange restoring named full opened
  have hrefuses {result : Result} (hopen : ∀ copy, s.unhand.openDraft page.toNat copy = .no result) (hin : inRange) :
      exec c s = .next (s.answered (refusal tag result)) := by
    refine congrArg _ (takeRequest_refused hr ?_)
    obtain ⟨copy, hcopy⟩ := exists_readFlag hin.2.2
    simp only [readPageId_eq hin.1 hin.2.1, hcopy]
    exact hopen copy
  have hidle (hnot : ¬restoring) : s.unhand.restoring = false :=
    Bool.eq_false_iff.mpr fun h => hnot (State.restoring_iff.mp h)
  have hunnamed (hnot : ¬named) : s.unhand.store.drafts.toList.any (fun d => d.target == some page.toNat) = false :=
    Bool.eq_false_iff.mpr fun h => hnot (drafts_any_target.mp h)
  have hopens {d : Fin 2} {copy : Bool} {body : DraftBody} (hfree : s.store.freeDraft = some d) (hin : inRange)
      (hnr : ¬restoring) (hnn : ¬named) (hbase : readFlag base = some copy) (hbody : s.draftBase page.toNat copy = some body) :
      exec c s = .next (opened d body) := by
    refine congrArg _ (takeRequest_ok (t := s.unhand.setStore (s.store.setDraft d (.editing body 0))) hr ?_)
    simp only [readPageId_eq hin.1 hin.2.1, hbase]
    change s.unhand.openDraft page.toNat copy = _
    rw [State.openDraft, hidle hnr, hunnamed hnn, show s.unhand.store.freeDraft = some d from hfree,
      show s.unhand.draftBase page.toNat copy = some body from hbody]
    rfl
  refine ⟨fun hnot => ?_, fun hin hrest => ?_, fun hin hnr hnamed => ?_, fun hin hnr hnn hfull => ?_,
    fun hin hnr hnn hfull hbase hnone => ?_, fun d hd hlow hin hnr hnn => ⟨fun hbase => ?_, fun p hbase hp => ?_⟩⟩
  · refine congrArg _ (takeRequest_refused hr ?_)
    by_cases hpage : page ≠ 0 ∧ page ≠ 255
    · have hflag : ¬base.toNat ≤ 1 := fun h => hnot ⟨hpage.1, hpage.2, h⟩
      simp only [readPageId_eq hpage.1 hpage.2, readFlag_none hflag]
      rfl
    · simp only [readPageId_none hpage]
      rfl
  · refine hrefuses (fun copy => ?_) hin
    rw [State.openDraft, if_pos (State.restoring_iff (s := s.unhand).mpr hrest)]
  · refine hrefuses (fun copy => ?_) hin
    rw [State.openDraft, hidle hnr, show s.unhand.store.drafts.toList.any _ = true from drafts_any_target.mpr hnamed]
    rfl
  · refine hrefuses (fun copy => ?_) hin
    rw [State.openDraft, hidle hnr, hunnamed hnn,
      show s.unhand.store.freeDraft = none from PageStore.freeDraft_none hfull.1 hfull.2]
    rfl
  · obtain ⟨d, hfree⟩ := PageStore.freeDraft_isSome hfull
    refine congrArg _ (takeRequest_refused hr ?_)
    simp only [readPageId_eq hin.1 hin.2.1, hbase]
    change s.unhand.openDraft page.toNat true = _
    rw [State.openDraft, hidle hnr, hunnamed hnn, show s.unhand.store.freeDraft = some d from hfree,
      show s.unhand.draftBase page.toNat true = none by simp [State.draftBase, State.unhand, hnone]]
    rfl
  · exact hopens (PageStore.freeDraft_eq hd hlow) hin hnr hnn (by rw [hbase]; rfl) rfl
  · refine hopens (PageStore.freeDraft_eq hd hlow) hin hnr hnn (by rw [hbase]; rfl) ?_
    simp [State.draftBase, hp, DraftBody.copyOf, (State.findPage_spec hp).2]

/-! ## Requests on an open draft (R4) -/

/-- The state once a draft has been edited by the request of a tag: answered OK, with the draft's new content, its idle count
restarted and the dirty flag set (R4). -/
def State.edited (s : State) (tag : Byte) (d : Fin 2) (new : DraftBody) : State :=
  ((s.answered (okReply tag [])).setStore { s.store with drafts := s.store.drafts.set d (.editing new 0) }).setArchive
    { s.archive with dirty := true }

section

variable {tag code draft : Byte} {payload : List Byte} {act : State → Fin 2 → DraftBody → Taken} {s : State} {d : Fin 2}
  {body : DraftBody} {idle : Nat}

/-- A request on an open draft that edits it (R4). -/
theorem draftRequest_edits (hr : s.link.handed = some ⟨tag, code, payload⟩) (hdraft : draft.toNat = d.val)
    (hd : s.store.drafts[d] = .editing body idle) {new : DraftBody} (hact : act s.unhand d body = s.unhand.editDraft d new) :
    takeRequest ⟨tag, code, payload⟩ (fun s => s.withDraft draft (act s)) s = s.edited tag d new :=
  takeRequest_ok (t := (s.unhand.setStore (s.store.setDraft d (.editing new 0))).markDirty) (payload := []) hr
    ((State.withDraft_editing (s := s.unhand) hdraft hd _).trans hact)

/-- A request on an open draft that its own checks refuse (R4). -/
theorem draftRequest_refused (hr : s.link.handed = some ⟨tag, code, payload⟩) (hdraft : draft.toNat = d.val)
    (hd : s.store.drafts[d] = .editing body idle) {result : Result} {bytes : List Byte}
    (hact : act s.unhand d body = .refused result bytes) :
    takeRequest ⟨tag, code, payload⟩ (fun s => s.withDraft draft (act s)) s = s.answered ⟨tag, result, bytes, false⟩ :=
  takeRequest_refused hr ((State.withDraft_editing (s := s.unhand) hdraft hd _).trans hact)

end

/-! ## WRITE_DOTS and WRITE_BLINK (R7, R8) -/

/-- A written dot set by segment: the bytes carried from the offset on, and the old segments elsewhere (R7, R175). -/
theorem Dots.getElem_write (d : Dots) (offset : Nat) (bytes : List Byte) (k : Fin 48) :
    (Dots.write d offset bytes)[k] =
      if offset ≤ k.val ∧ k.val < offset + bytes.length then bytes[k.val - offset]?.getD 0 else d[k] := by
  induction bytes generalizing d offset with
  | nil =>
    rw [if_neg (by simp only [List.length_nil]; omega)]
    rfl
  | cons b rest ih =>
    rw [Dots.write, ih]
    simp only [List.length_cons]
    rcases Nat.lt_trichotomy k.val offset with hk | hk | hk
    · rw [if_neg (by omega), if_neg (by omega), Fin.getElem_fin, Vector.getElem_setIfInBounds_ne _ (by omega)]
      rfl
    · subst hk
      rw [if_neg (by omega), if_pos (by omega)]
      simp
    · have hnext : k.val - offset = (k.val - (offset + 1)) + 1 := by omega
      by_cases hin : k.val < offset + (rest.length + 1)
      · rw [if_pos (by omega), if_pos (by omega), hnext, List.getElem?_cons_succ]
      · rw [if_neg (by omega), if_neg (by omega), Fin.getElem_fin, Vector.getElem_setIfInBounds_ne _ (by omega)]
        rfl

/-- Settles O34: the segments by `Dots.getElem_write`, and the refusals by R7 and R8. -/
theorem dotWritesEditTheDraft : Obligations.DotWritesEditTheDraft := by
  unfold Obligations.DotWritesEditTheDraft
  intro tag draft offset bytes s d body idle hdraft hd edited written
  constructor
  · rintro ⟨_, ⟨⟩, hr⟩
    refine ⟨fun hlong => congrArg _ (draftRequest_refused hr hdraft hd (if_pos hlong)),
      fun hfits => ⟨_, Dots.getElem_write body.image _ bytes, ?_⟩⟩
    exact congrArg _ (draftRequest_edits hr hdraft hd (if_neg (Nat.not_lt.mpr hfits)))
  · rintro ⟨_, ⟨⟩, hr⟩
    have hmask {mask : Option Dots} (hm : blinkMaskAfter body.mask offset.toNat bytes = some mask) :
        exec (.writeBlink tag draft offset bytes) s = .next (edited { body with mask := mask }) :=
      congrArg _ (draftRequest_edits hr hdraft hd (by simp only [hm]))
    have hnone (hm : blinkMaskAfter body.mask offset.toNat bytes = none) :
        exec (.writeBlink tag draft offset bytes) s = .next (s.answered (refusal tag .badField)) :=
      congrArg _ (draftRequest_refused hr hdraft hd (by simp only [hm, Taken.no]))
    refine ⟨fun hb h0 => hmask ?_, fun hb h0 => hnone ?_, fun hb hlong => hnone ?_, fun hb hfits =>
      ⟨_, Dots.getElem_write (body.mask.getD Dots.none) _ bytes, hmask ?_⟩⟩
    · simp [blinkMaskAfter, hb, h0]
    · have hne : offset.toNat ≠ 0 := fun h => h0 (BitVec.eq_of_toNat_eq h)
      simp [blinkMaskAfter, hb, hne]
    · simp [blinkMaskAfter, hb, hlong]
    · simp [blinkMaskAfter, hb, Nat.not_lt.mpr hfits]

/-! ## BIND_FIELD and UNBIND_FIELD (R31, R32) -/

/-- A source is read by its code (R30, 11.2). -/
theorem readSource_eq {b : Byte} {src : Source} (h : src.code = b.toNat) : readSource b = some src := by
  unfold readSource
  rw [← h]
  cases src <;> rfl

/-- A source code in range is one of the sources' (11.2). -/
theorem exists_source {b : Byte} (h : b.toNat ≤ 5) : ∃ src : Source, src.code = b.toNat := by
  match hb : b.toNat, h with
  | 0, _ => exact ⟨.clockHM, rfl⟩
  | 1, _ => exact ⟨.clockMS, rfl⟩
  | 2, _ => exact ⟨.dateDM, rfl⟩
  | 3, _ => exact ⟨.dateY, rfl⟩
  | 4, _ => exact ⟨.value, rfl⟩
  | 5, _ => exact ⟨.remain, rfl⟩

/-- A source code out of range is not read (11.2). -/
theorem readSource_none {b : Byte} (h : ¬b.toNat ≤ 5) : readSource b = none := by
  unfold readSource
  split
  case h_7 => rfl
  all_goals omega

/-- The source VALUE is the one of code 4 (11.2). -/
theorem Source.eq_value_iff {src : Source} : src = .value ↔ src.code = 4 := by
  cases src <;> simp [Source.code]

/-- The options byte by its number: the point's place in bits 0 to 2, zeros in bits 3 to 6, the suppression in bit 7 (R176). -/
theorem options_fields (options : Byte) :
    (options.extractLsb' 0 3).toNat = options.toNat % 8 ∧
      (options.extractLsb' 3 4 = 0 ↔ options.toNat / 8 % 16 = 0) ∧
      options.getLsbD 7 = decide (128 ≤ options.toNat) := by
  revert options
  decide

/-- A binding that R31 accepts is read as it stands in the payload. -/
theorem readBinding_eq {source register first count options : Byte} {src : Source} (hsrc : src.code = source.toNat)
    (hgood : options.extractLsb' 3 4 = 0 ∧ 1 ≤ count.toNat ∧ count.toNat ≤ 6 ∧ first.toNat + count.toNat ≤ 16 ∧
      (src ≠ .value → count.toNat = 4) ∧ (src = .value → register.toNat ≤ 7) ∧ (src ≠ .value → register.toNat = 0) ∧
      (options.extractLsb' 0 3).toNat ≤ count.toNat) :
    readBinding source register first count options =
      some ⟨src, register.toNat, first.toNat, count.toNat, options.getLsbD 7, (options.extractLsb' 0 3).toNat⟩ := by
  simp only [readBinding, readSource_eq hsrc]
  exact if_pos hgood

/-- Settles O35: the reading of the payload against R31, and one index written. -/
theorem fieldEditsChangeOneIndex : Obligations.FieldEditsChangeOneIndex := by
  unfold Obligations.FieldEditsChangeOneIndex
  intro tag draft index source register first count options s d body idle hdraft hd edited
  constructor
  · rintro ⟨_, ⟨⟩, hr⟩ c point good
    obtain ⟨hpoint, hzero, hsuppress⟩ := options_fields options
    have hconditions {src : Source} (hsrc : src.code = source.toNat) :
        good ↔ options.extractLsb' 3 4 = 0 ∧ 1 ≤ count.toNat ∧ count.toNat ≤ 6 ∧ first.toNat + count.toNat ≤ 16 ∧
          (src ≠ .value → count.toNat = 4) ∧ (src = .value → register.toNat ≤ 7) ∧ (src ≠ .value → register.toNat = 0) ∧
          (options.extractLsb' 0 3).toNat ≤ count.toNat := by
      have hcode : src.code ≤ 5 := by cases src <;> decide
      rw [hzero, hpoint, Source.eq_value_iff, ne_eq, Source.eq_value_iff, hsrc]
      rw [hsrc] at hcode
      simp only [good, point]
      tauto
    refine ⟨fun hbad => congrArg _ (draftRequest_refused hr hdraft hd ?_),
      fun i src hi hsrc hgood => congrArg _ (draftRequest_edits hr hdraft hd ?_)⟩
    · by_cases hindex : 3 < index.toNat
      · simp only [readIndex_none (bound := 4) hindex, Taken.no]
      · have hnone : readBinding source register first count options = none := by
          have hnot := hbad.resolve_left hindex
          by_cases hs : source.toNat ≤ 5
          · obtain ⟨src, hsrc⟩ := exists_source hs
            simp only [readBinding, readSource_eq hsrc]
            exact if_neg fun h => hnot ((hconditions hsrc).mpr h)
          · simp only [readBinding, readSource_none hs]
        obtain ⟨i, hi⟩ : ∃ i : Fin 4, index.toNat = i.val := ⟨⟨index.toNat, by omega⟩, rfl⟩
        simp only [readIndex_eq hi, hnone, Taken.no]
    · simp only [readIndex_eq hi, readBinding_eq hsrc ((hconditions hsrc).mp hgood), hpoint, hsuppress, point]
  · rintro ⟨_, ⟨⟩, hr⟩
    refine ⟨fun hindex => congrArg _ (draftRequest_refused hr hdraft hd ?_),
      fun i hi => congrArg _ (draftRequest_edits hr hdraft hd ?_)⟩
    · simp only [readIndex_none (bound := 4) hindex, Taken.no]
    · simp only [readIndex_eq hi]

/-! ## COMMIT and ABANDON (R11 to R13) -/

/-- Settles O37: the search of the walk stops at its first undefined cell (`List.find?_eq_some_iff_append`). -/
theorem firstUndefinedCellIsFirst : Obligations.FirstUndefinedCellIsFirst := by
  unfold Obligations.FirstUndefinedCellIsFirst
  intro table fields isDefined walk
  have hundefined (i : Nat) : isUndefined table i = true ↔ ¬isDefined i := by
    rw [← Bool.not_eq_false, isUndefined_eq_false]
  refine ⟨fun i => ?_, FieldList.cellsDefined_iff⟩
  rw [firstUndefinedCell_eq, List.find?_eq_some_iff_append, hundefined]
  simp only [Bool.not_eq_true', isUndefined_eq_false]
  rfl

/-- A page is absent exactly when no record is found (R2). -/
theorem State.present_eq_false {s : State} {id : Nat} : s.present id = false ↔ s.findPage id = none := by
  rw [← Bool.not_eq_true, State.present_iff, Option.eq_none_iff_forall_ne_some]
  exact not_exists

/-- Settles O36: the checks of R12 in their order, and then the deferred acceptance of R13. -/
theorem commitIsDeferredOrRefused : Obligations.CommitIsDeferredOrRefused := by
  unfold Obligations.CommitIsDeferredOrRefused
  intro tag draft s d body idle hdraft hd isNew full
  have hnew : (!s.unhand.present body.target) = true ↔ isNew := by
    rw [Bool.not_eq_true', State.present_eq_false]
    rfl
  have hfull : ((!s.unhand.present body.target) = true ∧
      Config.maxPages < s.unhand.store.pages.length + s.unhand.store.pendingNew + 1) ↔ full := by
    rw [hnew]
    rfl
  constructor
  · rintro ⟨_, ⟨⟩, hr⟩
    refine ⟨fun i hi => congrArg _ (draftRequest_refused hr hdraft hd ?_), fun hcells => ⟨fun hf => ?_, fun hf hop => ?_,
      fun hf hop => ⟨!s.present body.target, hnew, ?_⟩⟩⟩
    · simp only [State.unhand_cells, hi]
    · refine congrArg _ (draftRequest_refused hr hdraft hd ?_)
      simp only [State.unhand_cells, hcells]
      exact if_pos (hfull.mpr hf)
    · refine congrArg _ (draftRequest_refused hr hdraft hd ?_)
      simp only [State.unhand_cells, hcells]
      have hbusy : s.unhand.archiveBusy = true := by simpa [State.archiveBusy] using hop
      exact (if_neg fun h => hf (hfull.mp h)).trans (if_pos hbusy)
    · refine congrArg _ (takeRequest_deferred hr ((State.withDraft_editing (s := s.unhand) hdraft hd _).trans ?_))
      simp only [State.unhand_cells, hcells]
      have hbusy : ¬s.unhand.archiveBusy = true := by simpa [State.archiveBusy] using hop
      exact (if_neg fun h => hf (hfull.mp h)).trans (if_neg hbusy)
  · rintro ⟨_, ⟨⟩, hr⟩
    exact congrArg _ (takeRequest_ok (t := s.unhand.setStore (s.store.setDraft d .free)) (payload := []) hr
      (State.withDraft_editing (s := s.unhand) hdraft hd _))

end Sys2Proof.Machine
end

section
/-! PROOFS. The stored pages read back (R21 to R23). -/
namespace Sys2Proof.Machine
open Sys2Proof

/-! ## LIST_PAGES and READ_PAGE (R21 to R23) -/

theorem flagByte_isSome {α : Type} (x : Option α) [Decidable (x = none)] : flagByte x.isSome = if x = none then 0 else 1 := by
  cases x <;> simp [flagByte]

/-- Part 2 of READ_PAGE: the bindings by ascending index (R23). -/
theorem pagePartBytes_fields (p : Page) (offset : Nat) :
    pagePartBytes p 2 offset = byteOf p.version :: ([0, 1, 2, 3] : List (Fin 4)).flatMap (bindingBytes p) := by
  simp [pagePartBytes]

section
variable {tag page part offset : Byte} {s : State} (hr : s.link.handed = some ⟨tag, 0x39, [page, part, offset]⟩)
include hr

/-- READ_PAGE with an operand out of its range (R22 order 1). -/
theorem exec_readPage_badField
    (h : ¬(page ≠ 0 ∧ page ≠ 255 ∧ part.toNat ≤ 2 ∧ offset.toNat ≤ 47 ∧ (part = 2 → offset = 0))) :
    exec (.readPage tag page part offset) s = .next (s.answered (refusal tag .badField)) := by
  refine congrArg _ (takeRequest_refused hr ?_)
  by_cases hpage : page ≠ 0 ∧ page ≠ 255
  · simp only [readPageId_eq hpage.1 hpage.2]
    refine if_pos ?_
    by_contra hnot
    refine h ⟨hpage.1, hpage.2, by omega, by omega, fun hp => ?_⟩
    subst hp
    exact BitVec.eq_of_toNat_eq (by simp at hnot ⊢; omega)
  · simp only [readPageId_none hpage]; rfl

/-- READ_PAGE with operands in range answers from the record found, or NO_SUCH (R22 order 2). -/
theorem exec_readPage_good
    (h : page ≠ 0 ∧ page ≠ 255 ∧ part.toNat ≤ 2 ∧ offset.toNat ≤ 47 ∧ (part = 2 → offset = 0)) :
    exec (.readPage tag page part offset) s = .next (match s.findPage page.toNat with
      | none => s.answered (refusal tag .noSuch)
      | some p => s.answered (okReply tag (pagePartBytes p part.toNat offset.toNat))) := by
  obtain ⟨h0, h255, hpart, hoffset, hzero⟩ := h
  have hrange : ¬(2 < part.toNat ∨ 47 < offset.toNat ∨ part.toNat = 2 ∧ offset.toNat ≠ 0) := by
    rintro (hp | ho | ⟨hp, ho⟩)
    · omega
    · omega
    · exact ho (by rw [hzero (BitVec.eq_of_toNat_eq hp)]; rfl)
  cases hfind : s.findPage page.toNat with
  | none =>
      refine congrArg _ (takeRequest_refused hr ?_)
      simp only [readPageId_eq h0 h255, if_neg hrange]
      exact congrArg (fun x : Option Page => match x with
        | none => Taken.no .noSuch | some p => .ok (pagePartBytes p part.toNat offset.toNat) s.unhand) hfind
  | some p =>
      refine congrArg _ (takeRequest_ok hr (t := s.unhand) ?_)
      simp only [readPageId_eq h0 h255, if_neg hrange]
      exact congrArg (fun x : Option Page => match x with
        | none => Taken.no .noSuch | some p => .ok (pagePartBytes p part.toNat offset.toNat) s.unhand) hfind
end

/-- Settles O39: the owner of each request, evaluated on its operands. -/
theorem pagesAreReadBack : Obligations.PagesAreReadBack := by
  unfold Obligations.PagesAreReadBack
  constructor
  · rintro tag s ⟨_, ⟨⟩, hr⟩
    exact congrArg Host.Outcome.next (takeRequest_ok hr (t := s.unhand) rfl)
  · rintro tag page part offset s ⟨_, ⟨⟩, hr⟩ c good
    refine ⟨exec_readPage_badField hr, fun hgood hfind => ?_, fun p hgood hfind => ?_⟩
    · rw [exec_readPage_good hr hgood, hfind]
    · have hread : exec c s = .next (s.answered (okReply tag (pagePartBytes p part.toNat offset.toNat))) := by
        rw [exec_readPage_good hr hgood, hfind]
      refine ⟨?_, ?_, ?_, ?_⟩
      · rintro rfl
        rw [← flagByte_isSome]
        exact hread
      · rintro rfl hmask
        rw [hread]
        simp [pagePartBytes, hmask, flagByte]
      · rintro m rfl hmask
        rw [hread]
        simp [pagePartBytes, hmask, flagByte, Dots.bytesFrom]
      · rintro rfl
        rw [hread]
        refine congrArg (fun bytes => Host.Outcome.next (s.answered (okReply tag bytes))) ((pagePartBytes_fields p _).trans ?_)
        refine congrArg (fun bytes => byteOf p.version :: List.flatMap bytes _) (funext fun i => ?_)
        unfold bindingBytes
        cases p.fields[i] <;> rfl

/-! ## The idle counts (R9) -/

/-- A draft after a second tick (R9). -/
def Draft.counted : Draft → Draft
  | .editing body idle => if idle < 9 then .editing body (idle + 1) else .free
  | x => x

/-- The report a draft's second tick makes: DRAFT_ENDED with the tenth (R9, R94). -/
def Draft.reportCount (s : State) : Draft → State
  | .editing body idle => if idle < 9 then s else s.offer .draftEnded body.target 1
  | _ => s

theorem Draft.reportCount_setStore (s : State) (st : PageStore) (x : Draft) :
    (x.reportCount s).setStore st = x.reportCount (s.setStore st) := by
  cases x with
  | editing body idle => exact apply_ite (fun t : State => t.setStore st) _ _ _
  | free => rfl
  | committing body => rfl

theorem Draft.reportCount_store (s : State) (x : Draft) : (x.reportCount s).store = s.store := by
  cases x with
  | editing body idle => exact (apply_ite State.store _ _ _).trans (ite_self _)
  | free => rfl
  | committing body => rfl

theorem PageStore.setDraft_same (st : PageStore) (d : Fin 2) : st.setDraft d st.drafts[d] = st := by
  simp [PageStore.setDraft]

/-- One draft's part of a second tick (R9). -/
theorem State.countDraft_eq (s : State) (d : Fin 2) :
    s.countDraft d = s.store.drafts[d].reportCount (s.setStore (s.store.setDraft d s.store.drafts[d].counted)) := by
  have hsame : s.setStore (s.store.setDraft d s.store.drafts[d]) = s := by rw [PageStore.setDraft_same]; rfl
  unfold State.countDraft
  cases hd : s.store.drafts[d] with
  | editing body idle =>
      simp only [Draft.counted, Draft.reportCount, Config.draftIdleLimit]
      by_cases hidle : idle < 9
      · simp only [hidle, if_true, show idle + 1 < 10 by omega]
      · simp only [hidle, if_false, show ¬idle + 1 < 10 by omega]
  | free => exact (hd ▸ hsame).symm
  | committing body => exact (hd ▸ hsame).symm

/-- Both drafts are counted, and draft 0 reports before draft 1 (R9, log entry 25). -/
theorem State.countDrafts_eq (s : State) :
    s.countDrafts = s.store.drafts[1].reportCount (s.store.drafts[0].reportCount (s.setStore
      { s.store with drafts := #v[s.store.drafts[0].counted, s.store.drafts[1].counted] })) := by
  have hstore : (s.countDraft 0).store = s.store.setDraft 0 s.store.drafts[0].counted := by
    rw [State.countDraft_eq, Draft.reportCount_store]; rfl
  have hdraft : (s.countDraft 0).store.drafts[(1 : Fin 2)] = s.store.drafts[1] := by
    rw [hstore]; simp [PageStore.setDraft]
  have hboth : (s.countDraft 0).store.setDraft 1 s.store.drafts[1].counted
      = { s.store with drafts := #v[s.store.drafts[0].counted, s.store.drafts[1].counted] } := by
    rw [hstore]
    refine congrArg (fun v => { s.store with drafts := v }) (Vector.ext fun i hi => ?_)
    match i, hi with
    | 0, _ => simp [PageStore.setDraft]
    | 1, _ => simp [PageStore.setDraft]
  rw [State.countDrafts, State.countDraft_eq (s.countDraft 0), hdraft, hboth, State.countDraft_eq, Draft.reportCount_setStore]
  rfl

theorem Draft.expiring_iff {x : Draft} : x.expiring = true ↔ ∃ body idle, x = .editing body idle ∧ 9 ≤ idle := by
  cases x with
  | editing body idle => simp [Draft.expiring, Config.draftIdleLimit]
  | free => simp [Draft.expiring]
  | committing body => simp [Draft.expiring]

/-- Settles O40: each draft's part of the tick is its count and its report, and the drafts' parts commute
(`State.countDrafts_eq`). -/
theorem draftsExpireAtTen : Obligations.DraftsExpireAtTen := by
  unfold Obligations.DraftsExpireAtTen
  intro s taken after ended counted due
  have hcounted : taken.countDrafts = counted := by
    have hafter : Draft.counted = after := by
      funext x; cases x <;> rfl
    have hended : (fun t x => Draft.reportCount t x) = ended := by
      funext t x; cases x <;> rfl
    rw [State.countDrafts_eq, hafter]
    exact congrFun (congrFun hended _) _ |>.trans (congrArg (ended · _) (congrFun (congrFun hended _) _))
  have hdue : s.store.drafts.toList.any Draft.expiring = true ↔ due := by
    simp only [any_toList_iff, Draft.expiring_iff, due]
  refine ⟨fun h0 => ⟨if_pos h0, if_neg fun h => ?_⟩, fun hpos => ?_, fun hpos hd => ?_, fun hd => ?_⟩
  · omega
  · exact (if_neg (by omega)).trans (congrArg _ hcounted)
  · exact (if_pos ⟨hpos, hdue.mpr hd⟩).trans (congrArg _ hcounted)
  · exact if_neg fun h => hd (hdue.mp h.2)

end Sys2Proof.Machine
end

section
/-! PROOFS. The archive's operations begin (R134, R135, R138), and the starts (R24, R108, R154, R172). -/
namespace Sys2Proof.Machine
open Sys2Proof

/-! ## SAVE and RESTORE (R134, R135, R138) -/

/-- The newest sequence number on record is the last exactly when the current bank has it (R133, R134). -/
theorem Archive.newest_iff {a : Archive} :
    max (a.recordA.getD 0) (a.recordB.getD 0) = Config.maxSequence ↔ ∃ bank, a.current = some (bank, Config.maxSequence) := by
  unfold Archive.current
  cases a.recordA with
  | none =>
    cases a.recordB with
    | none => simp [Config.maxSequence]
    | some n => simp
  | some m =>
    cases a.recordB with
    | none => simp
    | some n =>
      by_cases h : m < n
      · simp [h, Nat.max_eq_right (Nat.le_of_lt h)]
      · simp [h, Nat.max_eq_left (Nat.le_of_not_lt h)]

/-- The two checks SAVE and RESTORE share (R134 orders 1 and 2, R138). -/
def State.archiveGate (s : State) (go : Taken) : Taken :=
  if s.archiveBusy then .no .archiveBusy else if !s.store.commits.isEmpty then .no .wrongState else go

/-- What SAVE does behind the shared checks (R134 order 3, R135). -/
def State.takeSave (s : State) (tag : Byte) : Taken :=
  match s.archive.current with
  | some (_, n) => if n = Config.maxSequence then .no .noRoom else .deferred (s.beginSave tag)
  | none => .deferred (s.beginSave tag)

/-- What RESTORE does behind the shared checks (R138). -/
def State.takeRestore (s : State) (tag : Byte) : Taken :=
  match s.archive.current with
  | none => .no .noSuch
  | some (bank, _) => .deferred (s.setArchive { s.archive with op := .restore bank tag })

theorem exec_save (tag : Byte) (s : State) :
    exec (.save tag) s = .next (takeRequest ⟨tag, 0x58, []⟩ (afterWalk fun t => t.archiveGate (t.takeSave tag)) s) := rfl

theorem exec_restore (tag : Byte) (s : State) :
    exec (.restore tag) s = .next (takeRequest ⟨tag, 0x59, []⟩ (fun t => t.archiveGate (t.takeRestore tag)) s) := rfl

section
variable {s : State}

theorem State.archiveGate_busy (h : s.archive.op ≠ .none) (go : Taken) : s.archiveGate go = .no .archiveBusy :=
  if_pos (by simpa [State.archiveBusy] using h)

theorem State.archiveGate_commits (h : s.archive.op = .none) (hcommits : s.store.commits ≠ []) (go : Taken) :
    s.archiveGate go = .no .wrongState :=
  (if_neg (by simpa [State.archiveBusy] using h)).trans (if_pos (by simpa using hcommits))

theorem State.archiveGate_free (h : s.archive.op = .none ∧ s.store.commits = []) (go : Taken) : s.archiveGate go = go :=
  (if_neg (by simpa [State.archiveBusy] using h.1)).trans (if_neg (by simpa using h.2))

theorem State.takeSave_noRoom {tag : Byte} (h : ∃ bank, s.archive.current = some (bank, Config.maxSequence)) :
    s.takeSave tag = .no .noRoom := by
  obtain ⟨bank, hbank⟩ := h
  simp [State.takeSave, hbank]

theorem State.takeSave_begins {tag : Byte} (h : ¬∃ bank, s.archive.current = some (bank, Config.maxSequence)) :
    s.takeSave tag = .deferred (s.beginSave tag) := by
  unfold State.takeSave
  split
  · rename_i bank n hbank
    exact if_neg fun hn : n = Config.maxSequence => h ⟨bank, hn ▸ hbank⟩
  · rfl

theorem State.takeRestore_noSuch {tag : Byte} (h : s.archive.current = none) : s.unhand.takeRestore tag = .no .noSuch := by
  simp [State.takeRestore, h]

theorem State.takeRestore_begins {tag : Byte} {bank : BankId} {n : Nat} (h : s.archive.current = some (bank, n)) :
    s.unhand.takeRestore tag = .deferred (s.deferred.setArchive { s.archive with op := .restore bank tag }) := by
  simp only [State.takeRestore, State.unhand_archive, h]
  rfl

/-- With no walk unfinished, a request that completes one first goes straight to its owner (R125). -/
theorem afterWalk_unhand (hwalk : s.schedule.walk = []) (owner : State → Taken) : afterWalk owner s.unhand = owner s.unhand :=
  congrArg owner (State.finishWalk_of_walk_nil hwalk)

end

section
variable {tag code : Byte} {owner : State → Taken} {s : State} {go : Taken} (hr : s.link.handed = some ⟨tag, code, []⟩)
  (howner : owner s.unhand = s.unhand.archiveGate go)
include hr howner

/-- The refusals SAVE and RESTORE share, in their order. -/
theorem takeRequest_archiveGate :
    (s.archive.op ≠ .none → takeRequest ⟨tag, code, []⟩ owner s = s.answered (refusal tag .archiveBusy)) ∧
      (s.archive.op = .none → s.store.commits ≠ [] →
        takeRequest ⟨tag, code, []⟩ owner s = s.answered (refusal tag .wrongState)) :=
  ⟨fun hop => takeRequest_refused hr (howner.trans (State.archiveGate_busy hop go)),
    fun hop hcommits => takeRequest_refused hr (howner.trans (State.archiveGate_commits hop hcommits go))⟩

end

/-! The current bank by the validity records (R133). -/

section
variable {a : Archive} {m n : Nat}

theorem Archive.current_unrecorded (hA : a.recordA = none) (hB : a.recordB = none) : a.current = none := by
  simp [Archive.current, hA, hB]

theorem Archive.current_onlyA (hA : a.recordA = some n) (hB : a.recordB = none) : a.current = some (.a, n) := by
  simp [Archive.current, hA, hB]

theorem Archive.current_onlyB (hA : a.recordA = none) (hB : a.recordB = some n) : a.current = some (.b, n) := by
  simp [Archive.current, hA, hB]

theorem Archive.current_newerB (hA : a.recordA = some m) (hB : a.recordB = some n) (h : m < n) :
    a.current = some (.b, n) := by
  simp [Archive.current, hA, hB, h]

theorem Archive.current_newerA (hA : a.recordA = some m) (hB : a.recordB = some n) (h : n < m) :
    a.current = some (.a, m) := by
  simp [Archive.current, hA, hB, Nat.le_of_lt h]

theorem Archive.saveTarget_none (h : a.current = none) : a.saveTarget = (.a, 1) := by
  rw [Archive.saveTarget, h]

theorem Archive.saveTarget_some {bank : BankId} (h : a.current = some (bank, n)) : a.saveTarget = (otherBank bank, n + 1) := by
  rw [Archive.saveTarget, h]

end

/-- What an accepted SAVE writes, by the target R135 chooses. -/
theorem State.beginSave_eq {s : State} {tag : Byte} {bank : BankId} {n : Nat} (h : s.archive.saveTarget = (bank, n)) :
    s.beginSave tag = s.setArchive { s.archive.setBank bank .unmarked none with dirty := false, op := .save bank n s.snapshot tag } := by
  simp only [State.beginSave, h]
  rfl

/-- Settles O54: the two checks both requests share, and behind them the choice by the current bank, which the validity records
give (`Archive.current`). -/
theorem saveAndRestoreBegin : Obligations.SaveAndRestoreBegin := by
  unfold Obligations.SaveAndRestoreBegin
  refine ⟨fun _ => rfl, ?_⟩
  intro tag s hwalk a free refused newest toA toB reads
  constructor
  · rintro ⟨_, ⟨⟩, hr⟩
    have howner := afterWalk_unhand hwalk fun t => t.archiveGate (t.takeSave tag)
    obtain ⟨hbusy, hcommits⟩ := takeRequest_archiveGate hr howner
    have hfull : newest = Config.maxSequence ↔ ∃ bank, s.unhand.archive.current = some (bank, Config.maxSequence) :=
      Archive.newest_iff
    refine ⟨⟨fun h => congrArg _ (hbusy h), fun h hc => congrArg _ (hcommits h hc)⟩, fun hfree hlast => ?_, fun hfree hlast => ?_⟩
    · exact congrArg _ (takeRequest_refused hr (howner.trans ((State.archiveGate_free hfree _).trans
        (State.takeSave_noRoom (hfull.mp hlast)))))
    · have hbegins :
          exec (.save tag) s = .next (s.deferred.beginSave tag) :=
        congrArg _ (takeRequest_deferred hr (howner.trans ((State.archiveGate_free hfree _).trans
          (State.takeSave_begins (mt hfull.mpr hlast)))))
      have hnone (h : s.archive.current = none) : toA 1 :=
        hbegins.trans (congrArg _ (State.beginSave_eq (s := s.deferred) (Archive.saveTarget_none h)))
      have hcurrentA {n : Nat} (h : s.archive.current = some (.a, n)) : toB (n + 1) :=
        hbegins.trans (congrArg _ (State.beginSave_eq (s := s.deferred) (Archive.saveTarget_some h)))
      have hcurrentB {n : Nat} (h : s.archive.current = some (.b, n)) : toA (n + 1) :=
        hbegins.trans (congrArg _ (State.beginSave_eq (s := s.deferred) (Archive.saveTarget_some h)))
      exact ⟨fun hA hB => hnone (Archive.current_unrecorded hA hB), fun n hA hB => hcurrentA (Archive.current_onlyA hA hB),
        fun n hA hB => hcurrentB (Archive.current_onlyB hA hB), fun m n hA hB h => hcurrentB (Archive.current_newerB hA hB h),
        fun m n hA hB h => hcurrentA (Archive.current_newerA hA hB h)⟩
  · rintro ⟨_, ⟨⟩, hr⟩
    obtain ⟨hbusy, hcommits⟩ := takeRequest_archiveGate (owner := fun t => t.archiveGate (t.takeRestore tag)) hr rfl
    refine ⟨⟨fun h => congrArg _ (hbusy h), fun h hc => congrArg _ (hcommits h hc)⟩, fun hfree hA hB => ?_, fun hfree => ?_⟩
    · exact congrArg _ (takeRequest_refused hr ((State.archiveGate_free hfree _).trans
        (State.takeRestore_noSuch (Archive.current_unrecorded hA hB))))
    · have hreads {bank : BankId} {n : Nat} (h : s.archive.current = some (bank, n)) : reads bank :=
        congrArg _ (takeRequest_deferred hr ((State.archiveGate_free hfree _).trans (State.takeRestore_begins h)))
      exact ⟨fun n hA hB => hreads (Archive.current_onlyA hA hB), fun n hA hB => hreads (Archive.current_onlyB hA hB),
        fun m n hA hB h => hreads (Archive.current_newerB hA hB h), fun m n hA hB h => hreads (Archive.current_newerA hA hB h)⟩

/-! ## The starts (R24, R108, R154, R172) -/

theorem exec_resetnFall_falls {s : State} (h : ∀ cause, s.phase ≠ .resetHeld cause) :
    exec .resetnFall s = .next (s.clearLive (.resetHeld .resetn)) := by
  change execResetnFall s = _
  unfold execResetnFall
  split
  · rename_i cause hcause
    exact absurd hcause (h cause)
  · rfl

/-- The release of a HELD calendar, or of any other (R108). -/
theorem State.releaseAtStart_held {s : State} {timer : Nat} (h : s.calendar.state = .held timer) :
    s.releaseAtStart = s.releaseHold := by
  simp [State.releaseAtStart, h]

theorem State.releaseAtStart_other {s : State} (h : ∀ timer, s.calendar.state ≠ .held timer) : s.releaseAtStart = s := by
  unfold State.releaseAtStart
  split
  · rename_i timer htimer
    exact absurd htimer (h timer)
  · rfl

theorem exec_resetnRelease_held {s : State} {cause : Cause} (h : s.phase = .resetHeld cause) :
    exec .resetnRelease s = .next (s.releaseAtStart.setPhase (.starting cause)) := by
  simp [exec, execResetnRelease, h]

/-- Settles O58: a start is `State.clearLive`, whose fields are read off (`State.clearLive_cleared`). -/
theorem startsClearTheLiveState : Obligations.StartsClearTheLiveState := by
  unfold Obligations.StartsClearTheLiveState
  refine ⟨fun s baudHigh resetnHigh => ?_, fun s cause h => ?_, fun s h => ?_, fun s => ⟨
    fun cause h hother => ?_, fun cause timer h hheld => ?_, fun h => ?_⟩⟩
  · have hcleared := State.reset.clearLive_cleared (if resetnHigh = true then .starting .powerOn else .resetHeld .powerOn)
    exact ⟨_, rfl, rfl, hcleared, rfl, rfl, rfl, rfl, rfl, rfl, rfl, rfl⟩
  · simp [exec, execResetnFall, h]
  · exact ⟨_, exec_resetnFall_falls h, rfl, s.clearLive_cleared _, rfl, rfl, rfl, rfl, rfl, rfl, rfl, rfl, rfl⟩
  · rw [exec_resetnRelease_held h, State.releaseAtStart_other hother]
  · rw [exec_resetnRelease_held h, State.releaseAtStart_held hheld]
    rfl
  · change execResetnRelease s = _
    unfold execResetnRelease
    split
    · rename_i cause hcause
      exact absurd hcause (h cause)
    · rfl

/-- Settles O7: with no bank marked the start-up restore installs the factory collections, and every other block comes from
the reset state. -/
theorem coldStartLeavesReset : Obligations.ColdStartLeavesReset := by
  unfold Obligations.ColdStartLeavesReset
  intro s hA hB
  refine ⟨_, rfl, ?_⟩
  rw [hA, hB]
  rfl

end Sys2Proof.Machine
end

section
/-! PROOFS. DELETE_PAGE (R18, R19, R70, R82). -/
namespace Sys2Proof.Machine
open Sys2Proof

/-! ## The rotation's reaction to a page that has gone (R70) -/

/-- The order of an advance: the indexes after `k`, cyclically (R67). -/
theorem advanceOrder_eq {k n : Nat} (hk : k < n) : advanceOrder k n = (List.range n).map fun i => (k + 1 + i) % n := by
  refine List.ext_getElem (by simp [advanceOrder]; omega) fun i h1 h2 => ?_
  have hi : i < n := by simpa using h2
  simp only [advanceOrder, List.getElem_append, List.length_drop, List.length_range, List.getElem_drop, List.getElem_range,
    List.getElem_take, List.getElem_map]
  split
  · rw [Nat.mod_eq_of_lt (by omega)]
  · rw [Nat.mod_eq_sub_mod (by omega), Nat.mod_eq_of_lt (by omega)]
    omega

/-- The next step is the first of the cyclic order that names a present page (R67, R70). -/
theorem State.nextStep_eq {s : State} {steps : List Step} {k d : Nat} {step : Step} (hk : k < steps.length) (hd : 1 ≤ d)
    (hlast : d ≤ steps.length) (hstep : steps[(k + d) % steps.length]? = some step) (hpresent : s.present step.page = true)
    (hbefore : ∀ e x, 1 ≤ e → e < d → steps[(k + e) % steps.length]? = some x → s.present x.page = false) :
    s.nextStep steps k = some ((k + d) % steps.length) := by
  rw [State.nextStep, advanceOrder_eq hk, List.find?_eq_some_iff_getElem]
  refine ⟨by simpa [hstep] using hpresent, d - 1, by simp; omega, ?_, fun j hj => ?_⟩
  · simp [show k + 1 + (d - 1) = k + d by omega]
  · have hj' : (k + (j + 1)) % steps.length < steps.length := Nat.mod_lt _ (by omega)
    have hno := hbefore (j + 1) _ (by omega) (by omega) (List.getElem?_eq_getElem hj')
    simp [show k + 1 + j = k + (j + 1) by omega, List.getElem?_eq_getElem hj', hno]

theorem State.nextStep_eq_none {s : State} {steps : List Step} {k : Nat} (h : ∀ step ∈ steps, s.present step.page = false) :
    s.nextStep steps k = none := by
  cases hnext : s.nextStep steps k with
  | none => rfl
  | some j =>
    obtain ⟨step, hstep, hpresent⟩ := State.nextStep_spec hnext
    rw [h step (List.mem_of_getElem? hstep)] at hpresent
    cases hpresent

/-- A rotation on another page does not react (R70). -/
theorem State.rotationPageGone_other {s : State} {page : Nat} (h : s.rotation.currentPage ≠ some page) :
    s.rotationPageGone page = s := by
  unfold State.rotationPageGone
  split
  · rfl
  · rename_i seat hseat
    refine if_neg ?_
    simpa [Rotation.currentPage, hseat] using h

section
variable {s : State} {page : Nat} {seat : Seat} (h : s.rotation.currentPage = some page) (hseat : s.rotation.seat = some seat)
include h hseat

/-- The seat names the page where the rotation is on it (R61). -/
theorem State.seat_names : (s.rotation.activeList.steps[seat.cursor]?).map Step.page = some page := by
  simpa [Rotation.currentPage, hseat] using h

theorem State.rotationPageGone_next {j : Nat} (hnext : s.nextStep s.rotation.activeList.steps seat.cursor = some j) :
    s.rotationPageGone page = s.setRotation { s.rotation with seat := seatOn s.rotation.activeList.steps j } := by
  simp only [State.rotationPageGone, hseat, State.seat_names h hseat, if_true, hnext]

theorem State.rotationPageGone_none (hnext : s.nextStep s.rotation.activeList.steps seat.cursor = none) :
    s.rotationPageGone page =
      (s.setRotation { s.rotation with seat := none }).offer .listStarved s.rotation.active.val 0 := by
  simp only [State.rotationPageGone, hseat, State.seat_names h hseat, if_true, hnext]

end

theorem State.rotationPageGone_moves {s : State} {page d : Nat} {seat : Seat} {step : Step}
    (h : s.rotation.currentPage = some page) (hseat : s.rotation.seat = some seat) (hd : 1 ≤ d)
    (hlast : d ≤ s.rotation.activeList.steps.length)
    (hstep : s.rotation.activeList.steps[(seat.cursor + d) % s.rotation.activeList.steps.length]? = some step)
    (hpresent : s.present step.page = true)
    (hbefore : ∀ e x, 1 ≤ e → e < d →
      s.rotation.activeList.steps[(seat.cursor + e) % s.rotation.activeList.steps.length]? = some x → s.present x.page = false) :
    s.rotationPageGone page = s.setRotation { s.rotation with
      seat := some ⟨(seat.cursor + d) % s.rotation.activeList.steps.length, step.dwell⟩ } := by
  have hcursor : seat.cursor < s.rotation.activeList.steps.length := by
    by_contra hout
    simpa [List.getElem?_eq_none (Nat.le_of_not_lt hout)] using State.seat_names h hseat
  rw [State.rotationPageGone_next h hseat (State.nextStep_eq hcursor hd hlast hstep hpresent hbefore), seatOn_eq hstep]

theorem State.rotationPageGone_starves {s : State} {page : Nat} (h : s.rotation.currentPage = some page)
    (hnone : ∀ step ∈ s.rotation.activeList.steps, s.present step.page = false) :
    s.rotationPageGone page = (s.setRotation { s.rotation with seat := none }).offer .listStarved s.rotation.active.val 0 := by
  cases hseat : s.rotation.seat with
  | none => simp [Rotation.currentPage, hseat] at h
  | some seat => exact State.rotationPageGone_none h hseat (State.nextStep_eq_none hnone)

/-- The lists, the active list and the pause flag stand (R70). -/
theorem State.rotationPageGone_stands (s : State) (page : Nat) :
    (s.rotationPageGone page).rotation.lists = s.rotation.lists ∧
      (s.rotationPageGone page).rotation.active = s.rotation.active ∧
      (s.rotationPageGone page).rotation.paused = s.rotation.paused := by
  unfold State.rotationPageGone
  split
  · exact ⟨rfl, rfl, rfl⟩
  · dsimp only
    split
    · split <;> exact ⟨rfl, rfl, rfl⟩
    · exact ⟨rfl, rfl, rfl⟩

/-! ## The removal -/

/-- The reports of the records that leave, in age order (R82). -/
theorem State.offerEnded_eq_foldl (s : State) (detail : Nat) (gone : List Override) :
    s.offerEnded detail gone = gone.foldl (fun u o => u.offer .overrideEnded o.page detail) s := by
  induction gone generalizing s with
  | nil => rfl
  | cons o rest ih => exact ih _

theorem PageStore.pendingNames_iff {st : PageStore} {id : Nat} :
    st.pendingNames id = true ↔ ∃ (d : Fin 2) (body : DraftBody), st.drafts[d] = .committing body ∧ body.target = id := by
  rw [PageStore.pendingNames, any_toList_iff]
  refine exists_congr fun d => ?_
  cases st.drafts[d] <;> simp

/-- The sweep, its reports listed one after another (R19, R82). -/
theorem State.sweepPage_eq (s : State) (id : Nat) :
    s.sweepPage id = (s.stack.records.filter fun o => o.page == id).foldl (fun u o => u.offer .overrideEnded o.page 3)
      (((s.setStore { s.store with pages := s.store.pages.filter fun p => p.id != id }).setArchive
        { s.archive with dirty := true }).setStack
        { s.stack with records := s.stack.records.filter fun o => o.page != id }) :=
  State.offerEnded_eq_foldl _ _ _

/-- A reply that is produced after a page is removed may as well be produced before (R162). -/
theorem State.removePage_reply (s : State) (id : Nat) (r : Reply) : (s.removePage id).reply r = (s.reply r).removePage id := by
  simp only [State.reply, State.removePage_setLink, State.removePage_link]

/-! ## The request (R18, R19) -/

/-- What DELETE_PAGE makes of a page id in range (R18 orders 2 to 4, R19). -/
def State.deletePage (s : State) (id : Nat) : Taken :=
  if !s.present id then .no .noSuch
  else if s.store.pendingNames id then .no .wrongState
  else if s.archiveBusy then .no .archiveBusy
  else .ok [] (s.removePage id)

section
variable {s : State} {id : Nat}

theorem State.deletePage_absent (h : s.findPage id = none) : s.deletePage id = .no .noSuch :=
  if_pos (by rw [State.present_eq_false.mpr h]; rfl)

theorem State.deletePage_named (h : s.findPage id ≠ none) (hnamed : s.store.pendingNames id = true) :
    s.deletePage id = .no .wrongState := by
  have hpresent : s.present id = true := by simpa using mt State.present_eq_false.mp h
  rw [State.deletePage, hpresent, hnamed]
  rfl

theorem State.deletePage_free (h : s.findPage id ≠ none) (hfree : ¬s.store.pendingNames id = true) :
    s.deletePage id = if s.archiveBusy then .no .archiveBusy else .ok [] (s.removePage id) := by
  have hpresent : s.present id = true := by simpa using mt State.present_eq_false.mp h
  rw [State.deletePage, hpresent, Bool.eq_false_iff.mpr hfree]
  rfl

end

/-! What the removal of a page changes (R19, R70, R82). -/

section
variable (s : State) (id : Nat)

@[simp] theorem State.removePage_store : (s.removePage id).store = { s.store with pages := s.store.pages.filter fun p => p.id != id } := by
  simp [State.removePage_eq]

@[simp] theorem State.removePage_archive : (s.removePage id).archive = { s.archive with dirty := true } := by
  simp [State.removePage, State.markDirty]

@[simp] theorem State.removePage_records :
    (s.removePage id).stack.records = s.stack.records.filter fun o => o.page != id := by
  simp [State.removePage, State.markDirty, bne]

@[simp] theorem State.removePage_selection :
    (s.removePage id).stack.selection = selectionOf (s.removePage id).stack.records (s.removePage id).rotation.currentPage := by
  simp [State.removePage_eq]

theorem State.removePage_findPage : (s.removePage id).findPage id = none := by
  simp [State.findPage]

/-- The lists, the active list and the pause flag stand (R70). -/
theorem State.removePage_stands :
    (s.removePage id).rotation.lists = s.rotation.lists ∧ (s.removePage id).rotation.active = s.rotation.active ∧
      (s.removePage id).rotation.paused = s.rotation.paused := by
  simpa [State.removePage_eq] using (s.sweepPage id).rotationPageGone_stands id

theorem State.removePage_rotation_other (h : s.rotation.currentPage ≠ some id) : (s.removePage id).rotation = s.rotation := by
  rw [State.removePage_eq, State.rotationPageGone_other (by simpa using h)]
  simp

/-- The rotation is seated right without the page (R60, R70). -/
theorem State.SeatOk.removePage {s : State} {id : Nat} (h : s.SeatOk) (hlist : s.rotation.activeList.Ok) : (s.removePage id).SeatOk :=
  State.SeatOk.congr ((h.sweepPage id).rotationPageGone (by simpa using hlist)) (by simp [State.removePage_eq])
    (State.present_congr (by simp))

end

/-- Settles O38: the checks of R18 in their order, and then the removal as the sweep of the store and the stack, the rotation's
reaction in its three cases, and the recomputation (`State.removePage_eq`). -/
theorem deletePageRemovesItEverywhere : Obligations.DeletePageRemovesItEverywhere := by
  unfold Obligations.DeletePageRemovesItEverywhere
  rintro tag page s ⟨_, ⟨⟩, hr⟩ c inRange present named
  have hrefuses {result : Result} (hin : inRange) (h : s.unhand.deletePage page.toNat = .no result) :
      exec c s = .next (s.answered (refusal tag result)) :=
    congrArg _ (takeRequest_refused hr (by simp only [readPageId_eq hin.1 hin.2]; exact h))
  have hnamed : s.unhand.store.pendingNames page.toNat = true ↔ named := PageStore.pendingNames_iff
  refine ⟨fun hin => congrArg _ (takeRequest_refused hr (by simp only [readPageId_none hin]; rfl)),
    fun hin hp => hrefuses hin (State.deletePage_absent (not_not.mp hp)),
    fun hin hp hn => hrefuses hin (State.deletePage_named hp (hnamed.mpr hn)),
    fun hin hp hn hop => hrefuses hin ((State.deletePage_free (s := s.unhand) hp (mt hnamed.mp hn)).trans
      (if_pos (by simpa [State.archiveBusy] using hop))),
    fun hin hp hn hop hseat hcollections => ?_⟩
  intro steps stays swept
  have hexec : exec c s = .next ((s.answered (okReply tag [])).removePage page.toNat) := by
    rw [show s.answered (okReply tag []) = s.unhand.reply (okReply tag []) from rfl, ← State.removePage_reply]
    refine congrArg _ (takeRequest_ok hr ?_)
    simp only [readPageId_eq hin.1 hin.2]
    exact (State.deletePage_free (s := s.unhand) hp (mt hnamed.mp hn)).trans (if_neg (by simpa [State.archiveBusy] using hop))
  have hswept : (s.answered (okReply tag [])).sweepPage page.toNat = swept := State.sweepPage_eq _ _
  have hmoved : exec c s = .next (swept.rotationPageGone page.toNat).recompute := by rw [hexec, State.removePage_eq, hswept]
  have hrotation : swept.rotation = s.rotation := by rw [← hswept, State.sweepPage_rotation]; rfl
  have hstays (id : Nat) : swept.present id = true ↔ stays id := by
    rw [← hswept, State.present_sweepPage, Bool.and_eq_true, bne_iff_ne, ← Bool.not_eq_false (State.present _ id),
      State.present_eq_false]
    rfl
  refine ⟨fun hother => ?_, fun seat d step hcurrent hs hd hlast hstep hstay hbefore => ?_, fun hcurrent hnone => ?_, _, hexec, ?_⟩
  · rw [hmoved, State.rotationPageGone_other (by rw [hrotation]; exact hother)]
  · rw [hmoved, State.rotationPageGone_moves (seat := seat) (d := d) (step := step) (by rw [hrotation]; exact hcurrent)
      (by rw [hrotation]; exact hs) hd (by rw [hrotation]; exact hlast) (by rw [hrotation]; exact hstep) ((hstays _).mpr hstay)
      (by rw [hrotation]; exact fun e x h1 h2 hx => Bool.eq_false_iff.mpr (mt (hstays _).mp (hbefore e x h1 h2 hx)))]
    simp only [hrotation]
    rfl
  · rw [hmoved, State.rotationPageGone_starves (by rw [hrotation]; exact hcurrent)
      (by rw [hrotation]; exact fun x hx => Bool.eq_false_iff.mpr (mt (hstays _).mp (hnone x hx)))]
    simp only [hrotation]
  · obtain ⟨⟨-, -, -, hlegal, -, -⟩, -⟩ := hcollections
    have hlist : s.rotation.activeList.Ok := hlegal _ (by simp [Rotation.activeList, State.snapshot, Vector.mem_toList_iff])
    obtain ⟨hlists, hactive, hpaused⟩ := (s.answered (okReply tag [])).removePage_stands page.toNat
    exact ⟨State.removePage_link .., State.removePage_store .., State.removePage_findPage .., State.removePage_archive ..,
      State.removePage_records .., State.SeatOk.removePage (s := s.answered (okReply tag [])) hseat hlist,
      fun hother => State.removePage_rotation_other _ _ hother, hlists, hactive, hpaused,
      State.removePage_selection .., State.removePage_phase .., State.removePage_cells .., State.removePage_frame ..,
      State.removePage_calendar .., State.removePage_schedule .., State.removePage_owed ..⟩

end Sys2Proof.Machine
end

section
/-! PROOFS. The pending commits complete at the frame boundary (R14 to R16). -/
namespace Sys2Proof.Machine
open Sys2Proof

/-! ## The cadence and the completions touch different blocks (R14, R49) -/

theorem State.offer_keepCadence (s : State) (k : Kind) (subject detail : Nat) :
    s.keepCadence.offer k subject detail = (s.offer k subject detail).keepCadence := rfl

theorem State.recompute_keepCadence (s : State) : s.keepCadence.recompute = s.recompute.keepCadence :=
  ite_apart State.keepCadence rfl rfl

theorem State.firstStep_keepCadence (s : State) (steps : List Step) : s.keepCadence.firstStep steps = s.firstStep steps := rfl

theorem State.reseat_keepCadence (s : State) (l : Fin 4) : s.keepCadence.reseat l = (s.reseat l).keepCadence := by
  simp only [State.reseat, State.keepCadence_rotation, State.firstStep_keepCadence]
  cases s.firstStep s.rotation.lists[l].steps with
  | some j => rfl
  | none => exact ite_apart State.keepCadence rfl rfl

/-- The rotation's reaction to a created page, by its seat and its active list (R71). -/
theorem State.rotationPageCreated_eq (s : State) (page : Nat)
    [Decidable (s.rotation.seat = none ∧ ∃ step ∈ s.rotation.activeList.steps, step.page = page)] :
    s.rotationPageCreated page =
      if s.rotation.seat = none ∧ ∃ step ∈ s.rotation.activeList.steps, step.page = page then
        (s.reseat s.rotation.active).recompute
      else s := by
  have hwhen : (s.rotation.state = .starved ∧ s.rotation.activeList.steps.any (·.page == page) = true) ↔
      (s.rotation.seat = none ∧ ∃ step ∈ s.rotation.activeList.steps, step.page = page) := by
    simp only [Rotation.state_starved_iff, List.any_eq_true, beq_iff_eq]
    constructor
    · rintro ⟨⟨hseat, -⟩, hstep⟩
      exact ⟨hseat, hstep⟩
    · rintro ⟨hseat, step, hmem, hpage⟩
      exact ⟨⟨hseat, List.ne_nil_of_mem hmem⟩, step, hmem, hpage⟩
  exact ite_cond_congr (propext hwhen)

theorem State.rotationPageCreated_keepCadence (s : State) (page : Nat) :
    s.keepCadence.rotationPageCreated page = (s.rotationPageCreated page).keepCadence := by
  refine ite_apart State.keepCadence ?_ rfl
  rw [State.reseatAndOffer, State.reseat_keepCadence, State.recompute_keepCadence]
  rfl

/-- The store, the dirty flag and the reply of a commit that completes (R14 steps 1 to 5). -/
def State.recordCommit (s : State) (e : PendingCommit) (page : Page) : State :=
  (s.setStore (s.store.completed e.draft page (s.store.commits.drop 1))).markDirty.reply
    (okReply e.tag [byteOf page.id, byteOf page.version])

theorem State.completeCommit_keepCadence (s : State) (e : PendingCommit) :
    s.keepCadence.completeCommit e = (s.completeCommit e).keepCadence := by
  simp only [State.completeCommit, State.keepCadence_store]
  cases s.store.drafts[e.draft] with
  | committing b =>
    exact ite_apart State.keepCadence
      (State.rotationPageCreated_keepCadence (s.recordCommit e (s.committedPage e.isNew b)) _) rfl
  | free => rfl
  | editing b n => rfl

theorem State.completeCommits_keepCadence (s : State) : s.keepCadence.completeCommits = s.completeCommits.keepCadence := by
  have hfold (l : List PendingCommit) (t : State) :
      l.foldl State.completeCommit t.keepCadence = (l.foldl State.completeCommit t).keepCadence :=
    List.foldl_hom State.keepCadence fun t e => (State.completeCommit_keepCadence t e)
  exact hfold s.store.commits s

/-- A boundary while the link listens: the completions, and then the latch (R14, R50). -/
theorem exec_frameBoundary {s : State} (h : s.phase = .listening) :
    exec .frameBoundary s = .next s.completeCommits.keepCadence.latchFrame := by
  rw [← State.completeCommits_keepCadence]
  exact if_pos (State.listening_iff.mpr h)

/-! ## A page written -/

/-- A page written is found by its id, and every other page as before (R1, R2). -/
theorem find_putPage (p : Page) (pages : List Page) (id : Nat) :
    (putPage p pages).find? (·.id == id) = if p.id = id then some p else pages.find? (·.id == id) := by
  induction pages with
  | nil => simp [putPage, List.find?_singleton]
  | cons q rest ih =>
    unfold putPage
    split
    · by_cases hp : p.id = id <;> simp [hp]
    · split
      · rename_i heq
        by_cases hp : p.id = id
        · simp [hp]
        · simp [hp, ← heq]
      · rename_i hne
        rw [List.find?_cons, List.find?_cons, ih]
        by_cases hp : p.id = id
        · have hq : (q.id == id) = false := beq_eq_false_iff_ne.mpr fun hq => hne (hp.trans hq.symm)
          simp [hp, hq]
        · simp [hp]

/-- In an ascending store the page written stands between those of lower and of higher id (R1). -/
theorem putPage_eq_filter {p : Page} {pages : List Page} (h : pages.Pairwise (·.id < ·.id)) :
    putPage p pages = (pages.filter fun q => decide (q.id < p.id)) ++ p :: pages.filter fun q => decide (p.id < q.id) := by
  induction pages with
  | nil => rfl
  | cons q rest ih =>
    obtain ⟨hq, hrest⟩ := List.pairwise_cons.mp h
    have habove (hle : p.id ≤ q.id) : rest.filter (fun r => decide (r.id < p.id)) = [] ∧
        rest.filter (fun r => decide (p.id < r.id)) = rest := by
      simp only [List.filter_eq_nil_iff, List.filter_eq_self, decide_eq_true_eq]
      exact ⟨fun r hr => by have := hq r hr; omega, fun r hr => by have := hq r hr; omega⟩
    unfold putPage
    split
    · rename_i hlt
      obtain ⟨hlow, hhigh⟩ := habove (Nat.le_of_lt hlt)
      simp [hlow, hhigh, hlt, Nat.not_lt.mpr (Nat.le_of_lt hlt)]
    · rename_i hnlt
      split
      · rename_i heq
        obtain ⟨hlow, hhigh⟩ := habove (Nat.le_of_eq heq)
        simp [hlow, hhigh, ← heq]
      · have hlt : q.id < p.id := by omega
        simp [hlt, hnlt, ih hrest]

/-! ## The completions, one after another (R14) -/

/-- The version a commit of the page gives its record (R14 step 1). -/
def State.nextVersion (s : State) (id : Nat) : Nat :=
  match s.findPage id with
  | some old => (old.version + 1) % 256
  | none => 0

/-- The record a draft's content and a version make (R14 steps 1 and 2). -/
def DraftBody.record (b : DraftBody) (version : Nat) : Page := ⟨b.target, version, b.image, b.mask, b.fields, clearLatches⟩

theorem State.nextVersion_congr {s t : State} {id : Nat} (h : t.findPage id = s.findPage id) : t.nextVersion id = s.nextVersion id := by
  rw [State.nextVersion, h]; rfl

/-- The record a commit writes, where its decision on a new id stands (R13, R14). -/
theorem State.committedPage_eq {s : State} {isNew : Bool} {b : DraftBody} (h : isNew = !s.present b.target) :
    s.committedPage isNew b = b.record (s.nextVersion b.target) := by
  unfold State.committedPage State.nextVersion DraftBody.record
  cases hfind : s.findPage b.target with
  | none => cases isNew <;> rfl
  | some old =>
    have hold : isNew = false := by rw [h, State.present_iff.mpr ⟨old, hfind⟩]; rfl
    rw [hold]

/-- The deferred reply of a commit (R14 step 5, R165). -/
def State.commitReply (s : State) (e : PendingCommit) : Reply :=
  match s.store.drafts[e.draft] with
  | .committing b => okReply e.tag [byteOf b.target, byteOf (s.nextVersion b.target)]
  | _ => okReply e.tag []

/-- What the completion of an entry comes to, on any state between, by the content its draft has in `s` (R14). -/
def State.completeWith (s u : State) (e : PendingCommit) (b : DraftBody) : State :=
  let t := u.recordCommit e (b.record (s.nextVersion b.target))
  if e.isNew then t.rotationPageCreated b.target else t

section
variable (s u : State) (e : PendingCommit) (b : DraftBody)

/-- What the completion of an entry does outside the rotation and the stack (R14). -/
theorem State.completeWith_effect :
    (s.completeWith u e b).phase = u.phase ∧
    (s.completeWith u e b).store =
      u.store.completed e.draft (b.record (s.nextVersion b.target)) (u.store.commits.drop 1) ∧
    (s.completeWith u e b).archive.dirty = true ∧
    (s.completeWith u e b).link = (u.reply (okReply e.tag [byteOf b.target, byteOf (s.nextVersion b.target)])).link := by
  unfold State.completeWith
  dsimp only
  split
  · simp only [State.rotationPageCreated_phase, State.rotationPageCreated_store, State.rotationPageCreated_archive,
      State.rotationPageCreated_link]
    exact ⟨rfl, rfl, rfl, rfl⟩
  · exact ⟨rfl, rfl, rfl, rfl⟩

end

/-- A state between two completions of one boundary: the first entries are done, in acceptance order (R14). -/
structure State.Completing (s : State) (done : List PendingCommit) (u : State) : Prop where
  phase : u.phase = s.phase
  commits : s.store.commits = done ++ u.store.commits
  drafts : ∀ d : Fin 2, u.store.drafts[d] = if d ∈ done.map PendingCommit.draft then .free else s.store.drafts[d]
  written : ∀ e ∈ done, ∀ b, s.store.drafts[e.draft] = .committing b →
    u.findPage b.target = some (b.record (s.nextVersion b.target))
  others : ∀ id, (∀ e ∈ done, s.store.drafts[e.draft].target ≠ some id) → u.findPage id = s.findPage id
  sorted : s.store.pages.Pairwise (·.id < ·.id) → u.store.pages.Pairwise (·.id < ·.id)
  dirty : done ≠ [] → u.archive.dirty = true
  replies : u.link.replies = s.link.replies ++ done.map s.commitReply
  unanswered : u.link.unanswered = done.foldl (fun l e => l.erase e.tag) s.link.unanswered

/-- Before the first completion nothing is done. -/
theorem State.completing_start (s : State) : s.Completing [] s :=
  ⟨rfl, rfl, fun _ => rfl, fun _ he => (nomatch he), fun _ _ => rfl, id, fun h => absurd rfl h, (List.append_nil _).symm, rfl⟩

section
variable {s u : State} {done rest : List PendingCommit} {e : PendingCommit} (hdrafts : s.DraftsOk) (h : s.Completing done u)
  (hnext : u.store.commits = e :: rest)
include hdrafts h hnext

omit hdrafts in
theorem State.Completing.entry_mem : e ∈ s.store.commits := by rw [h.commits, hnext]; simp

/-- The entries done are of other drafts, which name other pages (R2, R13). -/
theorem State.Completing.done_apart {g : PendingCommit} (hg : g ∈ done) : g.draft ≠ e.draft := by
  have hdistinct := ((State.draftsOk_iff s).mp hdrafts).distinct
  rw [h.commits, hnext, List.map_append, List.nodup_append] at hdistinct
  exact hdistinct.2.2 _ (List.mem_map_of_mem hg) _ (by simp)

theorem State.Completing.done_targets {g : PendingCommit} (hg : g ∈ done) {id : Nat} (hid : s.store.drafts[e.draft].target = some id) :
    s.store.drafts[g.draft].target ≠ some id := fun hx =>
  ((State.draftsOk_iff s).mp hdrafts).apart g.draft e.draft (h.done_apart hdrafts hnext hg) id hx hid

theorem State.Completing.draft_eq : u.store.drafts[e.draft] = s.store.drafts[e.draft] := by
  rw [h.drafts, if_neg]
  intro hx
  obtain ⟨g, hg, hd⟩ := List.mem_map.mp hx
  exact h.done_apart hdrafts hnext hg hd

/-- The next completion, by the content its draft has at the boundary (R14). -/
theorem State.Completing.completeCommit_eq {b : DraftBody} (hb : s.store.drafts[e.draft] = .committing b) :
    u.completeCommit e = s.completeWith u e b := by
  have htarget : s.store.drafts[e.draft].target = some b.target := by rw [hb]; rfl
  have hfind : u.findPage b.target = s.findPage b.target := h.others _ fun g hg => h.done_targets hdrafts hnext hg htarget
  have hpresent : u.present b.target = s.present b.target := by
    rw [Bool.eq_iff_iff, State.present_iff, State.present_iff, hfind]
  have hnew : e.isNew = !u.present b.target := by
    rw [hpresent]
    exact ((State.draftsOk_iff s).mp hdrafts).news e (h.entry_mem hnext) _ htarget
  rw [State.completeCommit_eq ((h.draft_eq hdrafts hnext).trans hb), State.committedPage_eq hnew, State.nextVersion_congr hfind]
  rfl

/-- One more entry is done (R14). -/
theorem State.Completing.step : s.Completing (done ++ [e]) (u.completeCommit e) := by
  obtain ⟨b, hb, -⟩ := ((State.draftsOk_iff s).mp hdrafts).entry (h.entry_mem hnext)
  have htarget : s.store.drafts[e.draft].target = some b.target := by rw [hb]; rfl
  obtain ⟨hphase, hstore, hdirty, hlink⟩ := s.completeWith_effect u e b
  have hfind (id : Nat) : (s.completeWith u e b).findPage id =
      if b.target = id then some (b.record (s.nextVersion b.target)) else u.findPage id := by
    rw [State.findPage, hstore]
    exact find_putPage ..
  have hreply : s.commitReply e = okReply e.tag [byteOf b.target, byteOf (s.nextVersion b.target)] := by
    rw [State.commitReply, hb]
  rw [h.completeCommit_eq hdrafts hnext hb]
  constructor
  case phase => exact hphase.trans h.phase
  case commits => rw [h.commits, hstore, hnext]; simp [PageStore.completed]
  case drafts =>
    intro d
    rw [hstore]
    refine (u.store.getElem_setDraft e.draft d .free).trans ?_
    rw [h.drafts]
    by_cases hd : d = e.draft <;> simp [hd]
  case written =>
    intro g hg c hc
    rw [hfind]
    rcases List.mem_append.mp hg with hg | hg
    · have hne : b.target ≠ c.target := fun heq => h.done_targets hdrafts hnext hg htarget (by rw [hc, heq]; rfl)
      rw [if_neg hne, h.written g hg c hc]
    · obtain rfl := List.mem_singleton.mp hg
      obtain rfl : b = c := Draft.committing.inj (hb.symm.trans hc)
      exact if_pos rfl
  case others =>
    intro id hid
    have hne : b.target ≠ id := fun heq => hid e (by simp) (by rw [htarget, heq])
    rw [hfind, if_neg hne, h.others id fun g hg => hid g (List.mem_append_left _ hg)]
  case sorted =>
    intro hs
    rw [hstore]
    exact putPage_sorted (h.sorted hs)
  case dirty => exact fun _ => hdirty
  case replies =>
    rw [hlink, List.map_append, ← List.append_assoc, ← h.replies, List.map_singleton, hreply]
    rfl
  case unanswered =>
    rw [hlink, List.foldl_append, ← h.unanswered]
    rfl

end

/-- A fold that agrees with the completion of each entry, on every state between, ends where the completions do, with every
entry done (R14). -/
theorem State.Completing.fold {s : State} (hdrafts : s.DraftsOk) {f : State → PendingCommit → State}
    (hf : ∀ (u : State) (done rest : List PendingCommit) (e : PendingCommit), s.Completing done u →
      u.store.commits = e :: rest → f u e = u.completeCommit e) {done : List PendingCommit} {u : State} (h : s.Completing done u) :
    u.store.commits.foldl f u = u.store.commits.foldl State.completeCommit u ∧
      s.Completing s.store.commits (u.store.commits.foldl State.completeCommit u) := by
  obtain ⟨l, hl⟩ : ∃ l, u.store.commits = l := ⟨_, rfl⟩
  rw [hl]
  induction l generalizing done u with
  | nil =>
    have hdone : s.store.commits = done := by rw [h.commits, hl, List.append_nil]
    exact ⟨rfl, hdone ▸ h⟩
  | cons e rest ih =>
    have hstep := h.step hdrafts hl
    have hrest : (u.completeCommit e).store.commits = rest := by
      have := hstep.commits
      rw [h.commits, hl, List.append_assoc] at this
      exact (List.cons.inj (List.append_cancel_left this)).2.symm
    rw [List.foldl_cons, List.foldl_cons, hf u done rest e h hl]
    exact ih hstep hrest

/-- Every entry is done once the completions have ended (R14). -/
theorem State.completeCommits_completing {s : State} (hdrafts : s.DraftsOk) : s.Completing s.store.commits s.completeCommits :=
  (State.Completing.fold hdrafts (fun _ _ _ _ _ _ => rfl) s.completing_start).2

theorem State.Completing.commits_nil {s u : State} (h : s.Completing s.store.commits u) : u.store.commits = [] := by
  simpa using h.commits

/-- The completions leave no commit pending, so that the boundary may be taken on the state they leave (R14). -/
theorem exec_frameBoundary_completed {s : State} (hphase : s.phase = .listening) (hdrafts : s.DraftsOk) :
    exec .frameBoundary s = exec .frameBoundary s.completeCommits := by
  have hdone := State.completeCommits_completing hdrafts
  have hnone : s.completeCommits.completeCommits = s.completeCommits := by
    rw [State.completeCommits, hdone.commits_nil]
    rfl
  rw [exec_frameBoundary hphase, exec_frameBoundary (hdone.phase.trans hphase), hnone]

/-! ## The latch of the frame keeps the stored content (R37, R50) -/

theorem State.updateLatches_store (s : State) (p : Page) (remain : RemainSource) :
    (s.updateLatches p remain).store =
      { s.store with pages := putPage { p with latches := s.latchesAfter p remain } s.store.pages } := by
  simp [State.updateLatches]

/-- The latch of a frame changes at most the overflow latches of one record. -/
theorem State.latchFrame_store (s : State) :
    s.latchFrame.store.drafts = s.store.drafts ∧ s.latchFrame.store.commits = s.store.commits ∧
      ∀ id, (s.latchFrame.findPage id).map Page.unlatched = (s.findPage id).map Page.unlatched := by
  unfold State.latchFrame
  dsimp only
  split
  · rename_i p hp
    obtain ⟨target, -, hfound⟩ := Option.bind_eq_some_iff.mp hp
    obtain ⟨-, hid⟩ := State.findPage_spec hfound
    simp only [State.findPage, State.updateLatches_store]
    refine ⟨rfl, rfl, fun id => ?_⟩
    rw [find_putPage]
    split
    · rename_i heq
      obtain rfl : target = id := hid.symm.trans heq
      exact (congrArg (Option.map Page.unlatched) hfound).symm
    · rfl
  · exact ⟨rfl, rfl, fun _ => rfl⟩

/-- Settles O31: on the law of the drafts each entry of the list completes with the content, the version and the decision that
stand at the boundary (`State.Completing`), and the latch of the frame that follows changes no stored content. -/
theorem commitsCompleteAtTheBoundary : Obligations.CommitsCompleteAtTheBoundary := by
  unfold Obligations.CommitsCompleteAtTheBoundary
  intro s hphase hdrafts version put complete completed
  have hversion (id : Nat) : version id = s.nextVersion id := rfl
  constructor
  · intro hcollections
    have hcompleted : completed = s.completeCommits := by
      refine (State.Completing.fold hdrafts (f := complete) (fun u done rest e h hnext => ?_) s.completing_start).1
      obtain ⟨b, hb, -⟩ := ((State.draftsOk_iff s).mp hdrafts).entry (h.entry_mem hnext)
      obtain ⟨-, -, hsorted, -⟩ := hcollections
      rw [h.completeCommit_eq hdrafts hnext hb]
      have hrecord : (u.setStore
            { pages := put ⟨b.target, version b.target, b.image, b.mask, b.fields, Vector.replicate 4 false⟩ u.store.pages
              drafts := u.store.drafts.set e.draft .free
              commits := u.store.commits.drop 1 }).setArchive { u.archive with dirty := true } =
          (u.setStore (u.store.completed e.draft (b.record (s.nextVersion b.target)) (u.store.commits.drop 1))).markDirty := by
        rw [PageStore.completed, putPage_eq_filter (h.sorted hsorted)]
        rfl
      simp only [complete, hb, hrecord]
      rw [State.completeWith]
      cases hnew : e.isNew with
      | false => exact if_neg fun hall => Bool.noConfusion hall.1
      | true =>
        simp only [true_and, if_true, State.rotationPageCreated_eq]
        rfl
    rw [hcompleted]
    exact ⟨exec_frameBoundary_completed hphase hdrafts, (State.completeCommits_completing hdrafts).commits_nil⟩
  · have hdone := State.completeCommits_completing hdrafts
    obtain ⟨hdraft, hcommits, hfind⟩ := s.completeCommits.keepCadence.latchFrame_store
    have hlink : s.completeCommits.keepCadence.latchFrame.link = s.completeCommits.link := by simp
    have harchive : s.completeCommits.keepCadence.latchFrame.archive = s.completeCommits.archive := by simp
    refine ⟨_, exec_frameBoundary hphase, hcommits.trans hdone.commits_nil, fun d => ?_, fun hne => ?_, ?_, ?_, ?_,
      fun i e body he hb => ⟨?_, ?_⟩, fun id hid => ?_⟩
    · rw [hdraft]
      refine (hdone.drafts d).trans ?_
      simp only [((State.draftsOk_iff s).mp hdrafts).pending d]
    · rw [harchive]
      exact hdone.dirty hne
    · rw [hlink, hdone.replies]; simp
    · rw [hlink, hdone.replies]; simp
    · rw [hlink, hdone.unanswered]
    · rw [hlink, hdone.replies, List.getElem?_append_right (Nat.le_add_right _ _)]
      simp [he, State.commitReply, hb, hversion]
    · have hpage := (hfind body.target).trans (congrArg (Option.map Page.unlatched) (hdone.written e (List.mem_of_getElem? he) body hb))
      obtain ⟨p, hp, hun⟩ := Option.map_eq_some_iff.mp hpage
      exact ⟨p, hp, hun⟩
    · rw [hfind]
      exact congrArg (Option.map Page.unlatched) (hdone.others id hid)

end Sys2Proof.Machine
end

section
/-! PROOFS. RESTART and the warm start it causes (R164, R171, R172), the value registers (R38 to R40), and the cell table's requests
(R26 to R28). -/
namespace Sys2Proof.Machine
open Sys2Proof

/-! ## RESTART (R108, R164, R171, R172) -/

/-- While RESTART's reply waits, or the start it causes is due, the link hands nothing over (R164). -/
theorem State.handOff_restartWaits {s : State} (h : s.link.restartDue = true ∨ ∃ r ∈ s.link.replies, r.restarts = true) :
    s.handOff = s := by
  have hwaits : s.restartWaits = true := by simpa [State.restartWaits] using h
  rcases s.handOff_cases with ⟨r, rest, -, hcan, -⟩ | ⟨-, hsame⟩
  · simp [State.canHandOff, hwaits] at hcan
  · exact hsame

theorem exec_warmStart_due {s : State} (hphase : s.phase = .listening) (hdue : s.link.restartDue = true) :
    exec .warmStartByRestart s = .next (s.clearLive (.starting .restart)).releaseAtStart :=
  if_pos ⟨State.listening_iff.mpr hphase, hdue⟩

theorem exec_warmStart_idle {s : State} (h : s.phase ≠ .listening ∨ s.link.restartDue = false) :
    exec .warmStartByRestart s = .next s := by
  refine if_neg ?_
  rintro ⟨hlistening, hdue⟩
  rcases h with hphase | hnot
  · exact hphase (State.listening_iff.mp hlistening)
  · rw [hnot] at hdue
    exact Bool.noConfusion hdue

/-- Reset release acts on the calendar, the blink phase and the cadence alone, so that a cleared state stays cleared (R108). -/
theorem State.Cleared.releaseHold {s : State} (h : s.Cleared) : s.releaseHold.Cleared := h

/-- Settles O15: the warm start is `State.clearLive` and the release of the calendar, by the calendar's state. -/
theorem restartRunsThroughItsReply : Obligations.RestartRunsThroughItsReply := by
  unfold Obligations.RestartRunsThroughItsReply
  refine ⟨?_, fun s h => congrArg _ (State.handOff_restartWaits h), fun s hphase hdue => ?_, fun s h => exec_warmStart_idle h⟩
  · rintro tag s ⟨_, ⟨⟩, hr⟩
    exact congrArg _ (takeRequest_handed hr)
  · have hcleared := s.clearLive_cleared (.starting .restart)
    refine ⟨_, exec_warmStart_due hphase hdue, ?_⟩
    by_cases hheld : ∃ timer, s.calendar.state = .held timer
    · obtain ⟨timer, hheld⟩ := hheld
      rw [State.releaseAtStart_held (s := s.clearLive (.starting .restart)) hheld]
      refine ⟨rfl, hcleared.releaseHold, rfl, rfl, rfl, fun _ _ => ⟨rfl, rfl, rfl⟩, fun hother => ?_, rfl, rfl, rfl⟩
      rw [hheld] at hother
      rcases hother with h | h <;> cases h
    · have hother (timer : Nat) : s.calendar.state ≠ .held timer := fun h => hheld ⟨timer, h⟩
      rw [State.releaseAtStart_other (s := s.clearLive (.starting .restart)) hother]
      exact ⟨rfl, hcleared, rfl, rfl, rfl, fun timer h => absurd h (hother timer), fun _ => ⟨rfl, rfl, rfl⟩, rfl, rfl, rfl⟩

/-! ## The value registers (R38 to R40) -/

section
variable {sum : Int}

theorem clampValue_below (h : sum < -99999) : clampValue sum = (-99999, true) := if_pos h

theorem clampValue_above (h : 999999 < sum) : clampValue sum = (999999, true) := by
  have hlow : ¬sum < Config.minValue := by simp only [Config.minValue]; omega
  exact (if_neg hlow).trans (if_pos h)

theorem clampValue_within (hlow : -99999 ≤ sum) (hhigh : sum ≤ 999999) : clampValue sum = (sum, false) :=
  (if_neg (Int.not_lt.mpr hlow)).trans (if_neg (Int.not_lt.mpr hhigh))

end

/-- Settles O24: the register number is read first, and the clamp goes by where the exact sum lies (R38, R39, R40). -/
theorem valueRegisterRequests : Obligations.ValueRegisterRequests := by
  unfold Obligations.ValueRegisterRequests
  intro tag register v s took
  refine ⟨?_, ?_, ?_⟩
  · rintro ⟨_, ⟨⟩, hr⟩
    refine ⟨fun hbad => congrArg _ (takeRequest_refused hr ?_),
      fun r hreg hlow hhigh => congrArg _ (takeRequest_ok (t := s.unhand.setRegister r v.toInt) hr ?_)⟩
    · by_cases hreg : 7 < register.toNat
      · simp only [readIndex_none (bound := 8) hreg, Taken.no]
      · have hi : register.toNat = (⟨register.toNat, by omega⟩ : Fin 8).val := rfl
        have hout : ¬(Config.minValue ≤ v.toInt ∧ v.toInt ≤ Config.maxValue) := by
          simp only [Config.minValue, Config.maxValue]; omega
        simp only [readIndex_eq hi, if_neg hout, Taken.no]
    · simp only [readIndex_eq hreg]
      exact if_pos ⟨hlow, hhigh⟩
  · rintro ⟨_, ⟨⟩, hr⟩
    refine ⟨fun hbad => congrArg _ (takeRequest_refused hr ?_), fun r hreg => ?_⟩
    · simp only [readIndex_none (bound := 8) hbad, Taken.no]
    · intro sum
      have hadd {n : Int} {clamped : Bool} {flag : Byte} (hclamp : clampValue sum = (n, clamped))
          (hflag : flagByte clamped = flag) : exec (.addValue tag register v) s = .next (took r n (valueBytes n ++ [flag])) := by
        refine congrArg _ (takeRequest_ok (t := s.unhand.setRegister r n) hr ?_)
        simp only [readIndex_eq hreg]
        change Taken.ok (valueBytes (clampValue sum).1 ++ [flagByte (clampValue sum).2])
          (s.unhand.setRegister r (clampValue sum).1) = _
        rw [hclamp, hflag]
      exact ⟨fun h => hadd (clampValue_below h) rfl, fun hl hh => hadd (clampValue_within hl hh) rfl,
        fun h => hadd (clampValue_above h) rfl⟩
  · rintro ⟨_, ⟨⟩, hr⟩
    refine ⟨fun hbad => congrArg _ (takeRequest_refused hr ?_),
      fun r hreg => congrArg _ (takeRequest_ok (t := s.unhand) hr ?_)⟩
    · simp only [readIndex_none (bound := 8) hbad, Taken.no]
    · simp only [readIndex_eq hreg, State.unhand_cells]

/-! ## The references of a cell (R25, R26) -/

/-- A reference of SET_CELL is absent or names a dot of the glass (R26). -/
def RefInRange (p : Byte × Byte) : Prop := p = (0xFF, 0xFF) ∨ p.1.toNat ≤ 7 ∧ p.2.toNat ≤ 47

/-- The reference that two bytes in range stand for. -/
def refOf (p : Byte × Byte) : Option DotRef := (readRef p).getD none

theorem readRef_present {p : Byte × Byte} (h : p.1.toNat < 8 ∧ p.2.toNat < 48) :
    readRef p = some (some ⟨⟨p.1.toNat, h.1⟩, ⟨p.2.toNat, h.2⟩⟩) := by
  have hpresent : ¬(p.1 = 0xFF ∧ p.2 = 0xFF) := fun hff => by
    have hlow := h.1
    rw [hff.1] at hlow
    exact absurd hlow (by decide)
  rw [readRef, if_neg hpresent, dif_pos h]

/-- A reference in range is read, as the bytes it is written in (R26, R28). -/
theorem readRef_inRange {p : Byte × Byte} (h : RefInRange p) :
    readRef p = some (refOf p) ∧ refBytes (refOf p) = [p.1, p.2] ∧ ((refOf p).isSome = true ↔ p ≠ (0xFF, 0xFF)) := by
  rcases h with rfl | ⟨hcommon, hsegment⟩
  · exact ⟨rfl, rfl, iff_of_false (by decide) fun h => h rfl⟩
  · have hread := readRef_present (p := p) ⟨Nat.lt_succ_of_le hcommon, Nat.lt_succ_of_le hsegment⟩
    have hne : p ≠ (0xFF, 0xFF) := by
      rintro rfl
      exact absurd hcommon (by decide)
    have href : refOf p = some _ := congrArg (Option.getD · none) hread
    rw [href]
    exact ⟨hread, by simp [refBytes, byteOf], iff_of_true rfl hne⟩

/-- A reference out of range is not read (R26 order 2). -/
theorem readRef_outOfRange {p : Byte × Byte} (h : ¬RefInRange p) : readRef p = none := by
  have habsent : ¬(p.1 = 0xFF ∧ p.2 = 0xFF) := fun hff => h (.inl (Prod.ext hff.1 hff.2))
  have hdot : ¬(p.1.toNat < 8 ∧ p.2.toNat < 48) := fun hdot =>
    h (.inr ⟨Nat.le_of_lt_succ hdot.1, Nat.le_of_lt_succ hdot.2⟩)
  rw [readRef, if_neg habsent, dif_neg hdot]

theorem readRefs_cons (p : Byte × Byte) (refs : List (Byte × Byte)) :
    readRefs (p :: refs) = (readRef p).bind fun r => (readRefs refs).map (r :: ·) := by
  simp only [readRefs, List.mapM_cons]
  cases readRef p with
  | none => rfl
  | some r => cases refs.mapM readRef <;> rfl

theorem readRefs_inRange {refs : List (Byte × Byte)} (h : ∀ p ∈ refs, RefInRange p) : readRefs refs = some (refs.map refOf) := by
  induction refs with
  | nil => rfl
  | cons p rest ih =>
    rw [readRefs_cons, (readRef_inRange (h p List.mem_cons_self)).1, ih fun q hq => h q (List.mem_cons_of_mem _ hq)]
    rfl

theorem readRefs_outOfRange {refs : List (Byte × Byte)} {p : Byte × Byte} (hp : p ∈ refs) (hout : ¬RefInRange p) :
    readRefs refs = none := by
  induction refs with
  | nil => cases hp
  | cons q rest ih =>
    rw [readRefs_cons]
    rcases List.mem_cons.mp hp with rfl | hp
    · rw [readRef_outOfRange hout]
      rfl
    · rw [ih hp]
      cases readRef q <;> rfl

/-- The eight references of SET_CELL, all in range, one of a–g present (R26 orders 2 and 3). -/
def CellInRange (refs : List (Byte × Byte)) : Prop :=
  (∀ p ∈ refs, RefInRange p) ∧ ∃ p ∈ refs.take 7, p ≠ (0xFF, 0xFF)

theorem readCell_absent {refs : List (Byte × Byte)} (h : readRefs refs = none) : readCell refs = none := by
  rw [readCell, h]

/-- Eight references in range make a cell where one of a–g is present (R25). -/
theorem readCell_eight {refs : List (Byte × Byte)} (hlength : refs.length = 8) (hall : ∀ p ∈ refs, RefInRange p) :
    readCell refs =
      if ((refs.map refOf).take 7).any Option.isSome then some ⟨⟨refs.map refOf⟩, by simp [hlength]⟩ else none := by
  match refs, hlength with
  | [_, _, _, _, _, _, _, _], _ =>
    rw [readCell, readRefs_inRange hall]
    rfl

theorem refs_any_present_iff {refs : List (Byte × Byte)} (hall : ∀ p ∈ refs, RefInRange p) :
    ((refs.map refOf).take 7).any Option.isSome = true ↔ ∃ p ∈ refs.take 7, p ≠ (0xFF, 0xFF) := by
  simp only [← List.map_take, List.any_map, List.any_eq_true, Function.comp]
  exact exists_congr fun p => and_congr_right fun hp => (readRef_inRange (hall p (List.mem_of_mem_take hp))).2.2

/-- References in range are read as a cell, which is written in the same bytes (R26, R28). -/
theorem exists_readCell {refs : List (Byte × Byte)} (hlength : refs.length = 8) (h : CellInRange refs) :
    ∃ cell : Cell, readCell refs = some cell ∧
      ∀ (j : Fin 8) (p : Byte × Byte), refs[j.val]? = some p → refBytes cell[j] = [p.1, p.2] := by
  obtain ⟨hall, hpresent⟩ := h
  refine ⟨_, (readCell_eight hlength hall).trans (if_pos ((refs_any_present_iff hall).mpr hpresent)), fun j p hp => ?_⟩
  obtain ⟨hj, rfl⟩ := List.getElem?_eq_some_iff.mp hp
  simpa using (readRef_inRange (hall _ (List.getElem_mem hj))).2.1

theorem readCell_outOfRange {refs : List (Byte × Byte)} (hlength : refs.length = 8) (h : ¬CellInRange refs) :
    readCell refs = none := by
  by_cases hall : ∀ p ∈ refs, RefInRange p
  · exact (readCell_eight hlength hall).trans (if_neg fun hpresent => h ⟨hall, (refs_any_present_iff hall).mp hpresent⟩)
  · obtain ⟨p, hp⟩ := not_forall.mp hall
    obtain ⟨hp, hout⟩ := Classical.not_imp.mp hp
    exact readCell_absent (readRefs_outOfRange hp hout)

/-! ## A cell in use (R27, R28) -/

theorem Binding.covers_iff {b : Binding} {cell : Nat} : b.covers cell = true ↔ b.first ≤ cell ∧ cell < b.first + b.count := by
  simp [Binding.covers]

theorem FieldList.covers_iff {f : FieldList} {cell : Nat} :
    f.covers cell = true ↔ ∃ b ∈ f.bound, b.first ≤ cell ∧ cell < b.first + b.count := by
  rw [FieldList.covers, any_toList_iff]
  constructor
  · rintro ⟨i, hi⟩
    cases hb : f[i] with
    | none => simp [hb] at hi
    | some b => exact ⟨b, FieldList.mem_bound.mpr ⟨i, hb⟩, Binding.covers_iff.mp (by simpa [hb] using hi)⟩
  · rintro ⟨b, hb, hcovers⟩
    obtain ⟨i, hi⟩ := FieldList.mem_bound.mp hb
    exact ⟨i, by simpa only [hi] using Binding.covers_iff.mpr hcovers⟩

theorem Draft.pendingCovers_iff {d : Draft} {cell : Nat} :
    d.pendingCovers cell = true ↔ ∃ body, d = .committing body ∧ body.fields.covers cell = true := by
  cases d <;> simp [Draft.pendingCovers]

/-- A cell is in use where a binding of a stored page or of the draft of a pending commit covers it (R28). -/
theorem State.cellInUse_iff {s : State} {cell : Nat} :
    s.cellInUse cell = true ↔
      (∃ p ∈ s.store.pages, ∃ b ∈ p.fields.bound, b.first ≤ cell ∧ cell < b.first + b.count) ∨
      ∃ d ∈ s.store.drafts.toList, ∃ body, d = .committing body ∧
        ∃ b ∈ body.fields.bound, b.first ≤ cell ∧ cell < b.first + b.count := by
  simp only [State.cellInUse, Bool.or_eq_true, List.any_eq_true, Draft.pendingCovers_iff, FieldList.covers_iff]

/-! ## SET_CELL, CLEAR_CELL and GET_CELL (R26 to R28) -/

theorem State.archiveBusy_iff {s : State} : s.archiveBusy = true ↔ s.archive.op ≠ .none := by simp [State.archiveBusy]

section
variable {s : State} {i : Fin 16}

/-- What CLEAR_CELL makes of a cell number in range (R27 orders 2 to 4). -/
def State.clearCell (s : State) (i : Fin 16) : Taken :=
  if s.archiveBusy then .no .archiveBusy
  else if s.cells.table[i].isNone then .no .noSuch
  else if s.cellInUse i.val then .no .inUse
  else .ok [] (s.setCells { s.cells with table := s.cells.table.set i none }).markDirty

theorem State.clearCell_busy (h : s.archive.op ≠ .none) : s.clearCell i = .no .archiveBusy :=
  if_pos (State.archiveBusy_iff.mpr h)

theorem State.clearCell_idle (h : s.archive.op = .none) :
    s.clearCell i = if s.cells.table[i].isNone then .no .noSuch else if s.cellInUse i.val then .no .inUse
      else .ok [] (s.setCells { s.cells with table := s.cells.table.set i none }).markDirty :=
  if_neg fun hbusy => State.archiveBusy_iff.mp hbusy h

theorem cellBytes_undefined (h : s.cells.table[i] = none) : cellBytes s i = 0 :: 0 :: List.replicate 16 0xFF := by
  rw [cellBytes, h]
  rfl

theorem cellBytes_defined {refs : Cell} (h : s.cells.table[i] = some refs) :
    cellBytes s i = 1 :: flagByte (s.cellInUse i.val) :: refs.toList.flatMap refBytes := by
  rw [cellBytes, h]
  rfl

end

section
variable {tag cell : Byte} {s : State} {i : Fin 16}

/-- CLEAR_CELL with a cell number in range (R27). -/
theorem exec_clearCell (hr : s.link.handed = some ⟨tag, 0x21, [cell]⟩) (hi : cell.toNat = i.val) :
    exec (.clearCell tag cell) s = .next (s.unhand.conclude tag (s.unhand.clearCell i)) := by
  refine congrArg _ ((takeRequest_handed hr).trans ?_)
  simp only [readIndex_eq hi]
  rfl

/-- GET_CELL with a cell number in range (R28). -/
theorem exec_getCell (hr : s.link.handed = some ⟨tag, 0x22, [cell]⟩) (hi : cell.toNat = i.val) :
    exec (.getCell tag cell) s = .next (s.answered (okReply tag (cellBytes s i))) := by
  refine congrArg _ (takeRequest_ok (t := s.unhand) hr ?_)
  simp only [readIndex_eq hi]
  rfl

end

/-- Settles O23: each request reads its payload, and then makes the checks of its table in their order. -/
theorem cellRequests : Obligations.CellRequests := by
  unfold Obligations.CellRequests
  constructor
  · rintro tag cell refs s hlength ⟨_, ⟨⟩, hr⟩ c good
    refine ⟨fun hbad => congrArg _ (takeRequest_refused hr ?_), fun i hi hgood hop => ?_, fun i hi hgood hop => ?_⟩
    · by_cases hcell : 15 < cell.toNat
      · simp only [readIndex_none (bound := 16) hcell, Taken.no]
      · obtain ⟨i, hi⟩ : ∃ i : Fin 16, cell.toNat = i.val := ⟨⟨cell.toNat, by omega⟩, rfl⟩
        simp only [readIndex_eq hi, readCell_outOfRange hlength (hbad.resolve_left hcell), Taken.no]
    · obtain ⟨new, hnew, -⟩ := exists_readCell hlength hgood
      refine congrArg _ (takeRequest_refused hr ?_)
      simp only [readIndex_eq hi, hnew]
      exact if_pos (State.archiveBusy_iff.mpr hop)
    · obtain ⟨new, hnew, hbytes⟩ := exists_readCell hlength hgood
      refine ⟨new, hbytes, congrArg _ (takeRequest_ok
        (t := (s.unhand.setCells { s.cells with table := s.cells.table.set i (some new) }).markDirty) hr ?_)⟩
      simp only [readIndex_eq hi, hnew]
      exact if_neg fun hbusy => State.archiveBusy_iff.mp hbusy hop
  · intro tag cell s i covers used
    have hused : s.cellInUse i.val = true ↔ used := State.cellInUse_iff
    constructor
    · rintro ⟨_, ⟨⟩, hr⟩
      have hclears (hi : cell.toNat = i.val) {taken : Taken} (htaken : s.unhand.clearCell i = taken) :
          exec (.clearCell tag cell) s = .next (s.unhand.conclude tag taken) := htaken ▸ exec_clearCell hr hi
      have hsome (h : s.cells.table[i] ≠ none) : ¬s.cells.table[i].isNone = true := by simpa using h
      refine ⟨fun hcell => congrArg _ (takeRequest_refused hr ?_), fun hi hop => hclears hi (State.clearCell_busy hop),
        fun hi hop hnone => hclears hi ((State.clearCell_idle (s := s.unhand) hop).trans (if_pos ?_)),
        fun hi hop hdef huse => hclears hi ((State.clearCell_idle (s := s.unhand) hop).trans
          ((if_neg (hsome hdef)).trans (if_pos (hused.mpr huse)))),
        fun hi hop hdef hfree => hclears hi ((State.clearCell_idle (s := s.unhand) hop).trans
          ((if_neg (hsome hdef)).trans (if_neg (mt hused.mp hfree))))⟩
      · simp only [readIndex_none (bound := 16) hcell, Taken.no]
      · simp only [State.unhand_cells, hnone, Option.isNone_none]
    · rintro ⟨_, ⟨⟩, hr⟩
      refine ⟨fun hcell => congrArg _ (takeRequest_refused hr ?_), fun hi hnone => ?_, fun refs hi hrefs =>
        ⟨fun huse => ?_, fun hfree => ?_⟩⟩
      · simp only [readIndex_none (bound := 16) hcell, Taken.no]
      · rw [exec_getCell hr hi, cellBytes_undefined hnone]
      · rw [exec_getCell hr hi, cellBytes_defined hrefs, hused.mpr huse]
        rfl
      · rw [exec_getCell hr hi, cellBytes_defined hrefs, Bool.eq_false_iff.mpr (mt hused.mp hfree)]
        rfl

end Sys2Proof.Machine
end

section
/-! PROOFS. The frame boundary without commits: the latch, the frame composed, and the overflow latches (R33, R37, R49 to R52). -/
namespace Sys2Proof.Machine
open Sys2Proof

/-! ## What the boundary reads (R33, R91) -/

theorem State.remainSource_none {s : State} (h : s.stack.selection.record = none) : s.remainSource = none := by
  simp only [State.remainSource, h]

/-- The first record of the selected identity gives the remaining time (R91). -/
theorem State.remainSource_first {s : State} {before after : List Override} {o : Override}
    (hrecords : s.stack.records = before ++ o :: after) (hselected : s.stack.selection.record = some o.identity)
    (hfirst : ∀ x ∈ before, x.identity ≠ o.identity) : s.remainSource = some o.remaining := by
  have hfind : s.stack.records.find? (·.identity == o.identity) = some o :=
    List.find?_eq_some_iff_append.mpr ⟨by simp, before, after, hrecords, fun x hx => by simpa using hfirst x hx⟩
  simp only [State.remainSource, hselected, hfind, Option.map_some]

/-- What is composed reads nothing of the prescaler and the cadence (R33). -/
theorem State.composeFrame_keepCadence (s : State) (page : Option Page) (remain : RemainSource) :
    s.keepCadence.composeFrame page remain = s.composeFrame page remain := by
  cases page <;> rfl

/-! ## The latch of the frame (R50) -/

/-- The frame engine once the selection is latched and the frame composed from it is driven (R50, R52). -/
def State.latchedFrame (s : State) : FrameEngine :=
  { s.frame with
    latched := s.stack.selection
    drive := s.composeFrame (s.stack.selection.page.bind s.findPage) s.remainSource }

section
variable {s : State}

theorem State.latchFrame_page {p : Page} (h : s.stack.selection.page.bind s.findPage = some p) :
    s.latchFrame = (s.setFrame s.latchedFrame).updateLatches p s.remainSource := by
  simp only [State.latchFrame, State.latchedFrame, h]

theorem State.latchFrame_noPage (h : s.stack.selection.page.bind s.findPage = none) :
    s.latchFrame = s.setFrame s.latchedFrame := by
  simp only [State.latchFrame, State.latchedFrame, h]

theorem State.latchFrame_frame (s : State) : s.latchFrame.frame = s.latchedFrame := by
  cases h : s.stack.selection.page.bind s.findPage with
  | none => rw [State.latchFrame_noPage h]; rfl
  | some p => rw [State.latchFrame_page h]; simp [State.updateLatches]

theorem State.latchedFrame_keepCadence (s : State) :
    s.keepCadence.latchedFrame =
      { s.keepCadence.frame with
        latched := s.stack.selection
        drive := s.composeFrame (s.stack.selection.page.bind s.findPage) s.remainSource } := by
  rw [← State.composeFrame_keepCadence]
  rfl

/-- A boundary during a start keeps the cadence alone (R58). -/
theorem exec_frameBoundary_starting (h : s.phase ≠ .listening) : exec .frameBoundary s = .next s.keepCadence :=
  if_neg (mt State.listening_iff.mp h)

/-- A boundary with no commit pending keeps the cadence and latches the frame (R49, R50). -/
theorem exec_frameBoundary_noCommits (h : s.phase = .listening) (hcommits : s.store.commits = []) :
    exec .frameBoundary s = .next s.keepCadence.latchFrame := by
  rw [exec_frameBoundary h, State.completeCommits, hcommits]
  rfl

end

/-- Settles O29: the boundary is the cadence and then the latch, whose frame is `State.latchedFrame`. -/
theorem frameBoundaryLatchesTheSelection : Obligations.FrameBoundaryLatchesTheSelection := by
  unfold Obligations.FrameBoundaryLatchesTheSelection
  refine ⟨⟨rfl, rfl, rfl⟩, fun s => ⟨State.remainSource_none, fun _ _ _ => State.remainSource_first⟩, fun s => ?_⟩
  intro at_ period next
  refine ⟨exec_frameBoundary_starting, fun hphase hcommits => ?_⟩
  have hframe := s.keepCadence.latchFrame_frame.trans s.latchedFrame_keepCadence
  obtain ⟨hdrafts, hpending, -⟩ := s.keepCadence.latchFrame_store
  refine ⟨_, exec_frameBoundary_noCommits hphase hcommits, ?_⟩
  rw [hframe]
  refine ⟨rfl, rfl, rfl, fun id p hid hp => ?_, fun hnone => ⟨?_, ?_⟩, rfl, rfl, rfl, s.keepCadence.latchFrame_calendar, ?_⟩
  · have hpage : s.stack.selection.page.bind s.findPage = some p := by rw [hid]; exact hp
    simp only [State.composeFrame, hpage]
  · simp only [State.composeFrame, hnone]
  · rw [State.latchFrame_noPage (s := s.keepCadence) hnone]
    exact ⟨rfl, rfl⟩
  · simp [hdrafts, hpending, hcommits]

/-! ## The overflow latches (R37) -/

/-- The latch of an index after the boundary, by what the index shows (R37). -/
theorem State.getElem_latchesAfter (s : State) (p : Page) (remain : RemainSource) (i : Fin 4) :
    (s.latchesAfter p remain)[i] = ((s.showingAt p remain i).map (latchAfter p.latches[i])).getD p.latches[i] := by
  have hafter : (s.latchesAfter p remain)[i] = match s.showingAt p remain i with
      | some w => latchAfter p.latches[i] w
      | none => p.latches[i] := by
    match i with
    | 0 => rfl
    | 1 => rfl
    | 2 => rfl
    | 3 => rfl
  rw [hafter]
  cases s.showingAt p remain i <;> rfl

/-- An index reports an overflow that it shows over a clear latch (R37). -/
theorem overflow_reported_iff {w : Option Showing} {latch : Bool} :
    (w == some (.minus true) && !latch) = true ↔ w = some (.minus true) ∧ latch = false := by
  simp

theorem State.offerOverflows_eq_foldl (s : State) (page : Nat) (indices : List (Fin 4)) :
    s.offerOverflows page indices = indices.foldl (fun t i => t.offer .fieldOverflow page i.val) s := by
  induction indices generalizing s with
  | nil => rfl
  | cons i rest ih => exact ih _

/-- The reports of a boundary, index by index (R37). -/
theorem State.offerOverflows_overflowing (s t : State) (p : Page) (remain : RemainSource) (page : Nat) :
    t.offerOverflows page (s.overflowing p remain) = [0, 1, 2, 3].foldl (fun t i =>
      if s.showingAt p remain i = some (.minus true) ∧ p.latches[i] = false then t.offer .fieldOverflow page i.val else t) t := by
  rw [State.offerOverflows_eq_foldl, State.overflowing, List.foldl_filter]
  simp only [overflow_reported_iff]

/-- A state at the boundary: the cadence kept, another frame engine latched and another page store written. -/
def State.atBoundary (t : State) (x : FrameEngine) (st : PageStore) : State := (t.keepCadence.setFrame x).setStore st

theorem State.offer_atBoundary (t : State) (x : FrameEngine) (st : PageStore) (k : Kind) (subject detail : Nat) :
    (t.atBoundary x st).offer k subject detail = (t.offer k subject detail).atBoundary x st := rfl

/-- Settles O30: the latched page's record is written with the latches of `State.latchesAfter`, and the reports are those of the
boundary's state, from which the cadence, the latched frame and the written record take nothing. -/
theorem overflowLatchesFollowTheFields : Obligations.OverflowLatchesFollowTheFields := by
  unfold Obligations.OverflowLatchesFollowTheFields
  intro s id p hphase hcommits hid hp shows report
  obtain ⟨-, hpid⟩ := State.findPage_spec hp
  have hpage : s.stack.selection.page.bind s.findPage = some p := by rw [hid]; exact hp
  have hlatch := State.latchFrame_page (s := s.keepCadence) hpage
  let after := s.latchesAfter p s.remainSource
  have hfind (other : Nat) : s.keepCadence.latchFrame.findPage other =
      if p.id = other then some { p with latches := after } else s.findPage other := by
    rw [hlatch, State.findPage, State.updateLatches_store]
    exact find_putPage ..
  have hlatches (i : Fin 4) : after[i] = ((shows i).map (latchAfter p.latches[i])).getD p.latches[i] :=
    s.getElem_latchesAfter p s.remainSource i
  refine ⟨_, { p with latches := after }, exec_frameBoundary_noCommits hphase hcommits, (hfind id).trans (if_pos hpid), rfl,
    fun other hne => (hfind other).trans (if_neg fun h => hne (h.symm.trans hpid)), fun i => ⟨fun h => ?_, fun chars h => ?_, ?_⟩, ?_⟩
  · exact (hlatches i).trans (by rw [h]; rfl)
  · exact (hlatches i).trans (by rw [h]; rfl)
  · rintro (h | h | h) <;> exact (hlatches i).trans (by rw [h]; rfl)
  · let x := s.keepCadence.latchedFrame
    let st := { s.store with pages := putPage { p with latches := after } s.store.pages }
    have hfold : [0, 1, 2, 3].foldl report (s.atBoundary x st) = ([0, 1, 2, 3].foldl report s).atBoundary x st :=
      List.foldl_hom (State.atBoundary · x st) fun t i => ite_apart (State.atBoundary · x st) (t.offer_atBoundary ..) rfl
    have hreports := State.offerOverflows_overflowing s (s.atBoundary x st) p s.remainSource p.id
    rw [hpid] at hreports
    calc s.keepCadence.latchFrame.reports
        = ((s.atBoundary x st).offerOverflows id (s.overflowing p s.remainSource)).reports := by rw [hlatch, ← hpid]; rfl
      _ = (([0, 1, 2, 3].foldl report s).atBoundary x st).reports := congrArg State.reports (hreports.trans hfold)
      _ = ([0, 1, 2, 3].foldl report s).reports := rfl

end Sys2Proof.Machine
end

section
/-! PROOFS. The dots a rendered image shows (R25, R29, R33). -/
namespace Sys2Proof.Machine
open Sys2Proof

/-! ## Dot sets, dot by dot (R175) -/

/-- The dot is in the set. -/
def DotRef.On (dot : DotRef) (d : Dots) : Prop := Dots.has d dot.common.val dot.segment.val = true

theorem DotRef.on_iff {d : Dots} {dot : DotRef} : dot.On d ↔ d[dot.segment].getLsbD dot.common.val = true := by
  simp [DotRef.On, Dots.has]

theorem Dots.getElem_map2 (f : Byte → Byte → Byte) (d e : Dots) (s : Fin 48) : (Dots.map2 f d e)[s] = f d[s] e[s] := by
  simp [Dots.map2]

section
variable {d e : Dots} {dot : DotRef}

theorem DotRef.on_or : dot.On (Dots.map2 (· ||| ·) d e) ↔ dot.On d ∨ dot.On e := by
  rw [DotRef.on_iff, DotRef.on_iff, DotRef.on_iff, Dots.getElem_map2, BitVec.getLsbD_or, Bool.or_eq_true]

theorem DotRef.on_without : dot.On (Dots.map2 (fun i w => i &&& ~~~w) d e) ↔ dot.On d ∧ ¬dot.On e := by
  rw [DotRef.on_iff, DotRef.on_iff, DotRef.on_iff, Dots.getElem_map2, BitVec.getLsbD_and, BitVec.getLsbD_not]
  simp [dot.common.isLt]

theorem DotRef.not_on_none : ¬dot.On Dots.none := by
  simp [DotRef.on_iff, Dots.none]

/-- One bit of a byte by its place (R175). -/
theorem getLsbD_oneBit (b c : Fin 8) : (1#8 <<< b.val).getLsbD c.val = true ↔ b = c := by
  revert b c
  decide

theorem DotRef.on_add {r : DotRef} : dot.On (Dots.add d r) ↔ dot.On d ∨ r = dot := by
  obtain ⟨c, s⟩ := r
  obtain ⟨c', s'⟩ := dot
  simp only [DotRef.on_iff, Dots.add, Fin.getElem_fin, DotRef.mk.injEq]
  by_cases hs : s = s'
  · subst hs
    rw [Vector.getElem_setIfInBounds_self, BitVec.getLsbD_or, Bool.or_eq_true, getLsbD_oneBit]
    simp
  · rw [Vector.getElem_setIfInBounds_ne _ fun h => hs (Fin.ext h)]
    simp [hs]

/-- The dots of a list of references are those it names. -/
theorem DotRef.on_ofRefs {refs : List (Option DotRef)} : dot.On (Dots.ofRefs refs) ↔ some dot ∈ refs := by
  have hfold (d : Dots) : dot.On (refs.foldl (fun d r => match r with
      | some r => Dots.add d r
      | none => d) d) ↔ dot.On d ∨ some dot ∈ refs := by
    induction refs generalizing d with
    | nil => simp
    | cons r rest ih =>
      rw [List.foldl_cons, ih]
      cases r with
      | none => simp
      | some r => simp [DotRef.on_add, or_assoc, eq_comm]
  exact (hfold _).trans (or_iff_right DotRef.not_on_none)

end

/-! ## The references a binding covers and lights (R29, R33) -/

section
variable {table : Vector (Option Cell) 16} {dot : DotRef} {b : Binding}

theorem mem_cellRefs {cell : Nat} :
    some dot ∈ cellRefs table cell ↔ ∃ refs : Cell, table[cell]? = some (some refs) ∧ ∃ j : Fin 8, refs[j] = some dot := by
  unfold cellRefs
  rcases table[cell]? with _ | _ | refs
  · simp
  · simp
  · simp [Vector.mem_toList_iff, Vector.mem_iff_getElem, Fin.exists_iff]

theorem mem_litRefs {cell : Nat} {g : Glyph} {point : Bool} :
    some dot ∈ litRefs table cell g point ↔ ∃ refs : Cell, table[cell]? = some (some refs) ∧
      ((∃ j ∈ g.lit.map Segment.index, refs[j] = some dot) ∨ point = true ∧ refs[(7 : Fin 8)] = some dot) := by
  unfold litRefs
  rcases table[cell]? with _ | _ | refs
  · simp
  · simp
  · cases point <;> simp [Segment.index, eq_comm]

theorem Binding.mem_coveredRefs :
    some dot ∈ b.coveredRefs table ↔ ∃ k < b.count, some dot ∈ cellRefs table (b.first + k) := by
  simp [Binding.coveredRefs]

theorem Binding.mem_shownRefs {w : Showing} :
    some dot ∈ b.shownRefs table w ↔ ∃ k < b.count, some dot ∈ litRefs table (b.first + k) (w.char k) (w.pointLit b k) := by
  simp [Binding.shownRefs]

/-- A lit reference of a cell is one of its references. -/
theorem cellRefs_of_litRefs {cell : Nat} {g : Glyph} {point : Bool} (h : some dot ∈ litRefs table cell g point) :
    some dot ∈ cellRefs table cell := by
  obtain ⟨refs, hrefs, ⟨j, -, hj⟩ | ⟨-, hpoint⟩⟩ := mem_litRefs.mp h
  · exact mem_cellRefs.mpr ⟨refs, hrefs, j, hj⟩
  · exact mem_cellRefs.mpr ⟨refs, hrefs, 7, hpoint⟩

theorem Binding.coveredRefs_of_shownRefs {w : Showing} (h : some dot ∈ b.shownRefs table w) :
    some dot ∈ b.coveredRefs table := by
  obtain ⟨k, hk, hlit⟩ := Binding.mem_shownRefs.mp h
  exact Binding.mem_coveredRefs.mpr ⟨k, hk, cellRefs_of_litRefs hlit⟩

theorem Showing.pointLit_iff {w : Showing} {k : Nat} :
    w.pointLit b k = true ↔ (∃ chars, w = .value chars) ∧ b.point = k + 1 := by
  cases w <;> simp [Showing.pointLit]

end

/-! ## The rendered image (R33, R52) -/

section
variable {image : Dots} {fields : FieldList} {table : Vector (Option Cell) 16} {values : Vector Int 8} {c : Calendar}
  {remain : RemainSource} {dot : DotRef}

/-- A rendered dot is lit by a binding, or it is the image's and no binding writes it. -/
theorem renderFields_on_iff :
    dot.On (renderFields image fields table values c remain) ↔
      (dot.On image ∧ ¬∃ b ∈ fields.bound, some dot ∈ b.coveredRefs table) ∨
        ∃ b ∈ fields.bound, some dot ∈ b.shownRefs table (b.showing values c remain) := by
  rw [renderFields, DotRef.on_or, DotRef.on_without, DotRef.on_ofRefs, DotRef.on_ofRefs, List.mem_flatMap, List.mem_flatMap]

theorem renderFields_written (h : ∃ b ∈ fields.bound, some dot ∈ b.coveredRefs table) :
    dot.On (renderFields image fields table values c remain) ↔
      ∃ b ∈ fields.bound, some dot ∈ b.shownRefs table (b.showing values c remain) :=
  renderFields_on_iff.trans (or_iff_right fun hkept => hkept.2 h)

theorem renderFields_kept (h : ¬∃ b ∈ fields.bound, some dot ∈ b.coveredRefs table) :
    dot.On (renderFields image fields table values c remain) ↔ dot.On image := by
  have hdark : ¬∃ b ∈ fields.bound, some dot ∈ b.shownRefs table (b.showing values c remain) :=
    fun ⟨b, hb, hshown⟩ => h ⟨b, hb, Binding.coveredRefs_of_shownRefs hshown⟩
  rw [renderFields_on_iff, or_iff_left hdark, and_iff_left h]

end

/-- Settles O26: a rendered dot is lit by a reference a binding lights, or kept where no binding covers one
(`renderFields_on_iff`); the model's glyphs light the segments of R29. -/
theorem renderedDotIsLitOrKept : Obligations.RenderedDotIsLitOrKept := by
  unfold Obligations.RenderedDotIsLitOrKept
  intro image fields table values c remain dot segments lights character point written lit on
  have hlights (g : Glyph) : g.lit.map Segment.index = lights g := by
    match g with
    | .digit 0 | .digit 1 | .digit 2 | .digit 3 | .digit 4 | .digit 5 | .digit 6 | .digit 7 | .digit 8 | .digit 9 => rfl
    | .digit (n + 10) => rfl
    | .minus => rfl
    | .blank => rfl
  have hcharacter (w : Showing) (k : Nat) : w.char k = character w k := by cases w <;> rfl
  have hwritten : (∃ b ∈ fields.bound, some dot ∈ b.coveredRefs table) ↔ written := by
    simp only [Binding.mem_coveredRefs, mem_cellRefs]
    rfl
  have hlit : (∃ b ∈ fields.bound, some dot ∈ b.shownRefs table (b.showing values c remain)) ↔ lit := by
    simp only [Binding.mem_shownRefs, mem_litRefs, hlights, hcharacter, Showing.pointLit_iff]
    rfl
  exact ⟨fun h => (renderFields_written (hwritten.mpr h)).trans hlit, fun h => renderFields_kept (mt hwritten.mp h)⟩

end Sys2Proof.Machine
end

section
/-! PROOFS. What a field shows of its source (R30, R34 to R36). -/
namespace Sys2Proof.Machine
open Sys2Proof

/-! ## Decimal digits (R34) -/

theorem length_filter_range_below (n l : Nat) : ((List.range n).filter fun k => k + 1 < l).length = min n (l - 1) := by
  induction n with
  | zero => simp
  | succ n ih =>
    rw [List.range_succ, List.filter_append, List.length_append, ih]
    by_cases h : n + 1 < l
    · simp [h]; omega
    · simp [h]; omega

/-- D of R34 counts the decimal digits, where 0 has one. -/
theorem decimalDigits_eq {m : Nat} (h : m < 10 ^ 10) : decimalDigits m = max 1 (Nat.digits 10 m).length := by
  have hpow (k : Nat) : 10 ^ (k + 1) ≤ m ↔ k + 1 < (Nat.digits 10 m).length :=
    (Nat.lt_digits_length_iff (by decide) m).symm
  have hlength : (Nat.digits 10 m).length ≤ 10 := (Nat.digits_length_le_iff (by decide) m).mpr h
  simp only [decimalDigits, hpow, length_filter_range_below]
  omega

/-- A magnitude is below the power of ten of its digits, and of any wider run of cells. -/
theorem lt_pow_of_decimalDigits_le {m width : Nat} (h : m < 10 ^ 10) (hwidth : decimalDigits m ≤ width) : m < 10 ^ width := by
  rw [decimalDigits_eq h] at hwidth
  exact (Nat.digits_length_le_iff (by decide) m).mp (Nat.le_trans (Nat.le_max_right _ _) hwidth)

/-- The low decimal digits of a magnitude, the highest first. -/
def decimals (m width : Nat) : List Nat := (List.range width).map fun i => m / 10 ^ (width - 1 - i) % 10

theorem digitGlyphs_eq (m width : Nat) : digitGlyphs m width = (decimals m width).map .digit := by
  rw [digitGlyphs, decimals, List.map_map]
  rfl

theorem length_decimals (m width : Nat) : (decimals m width).length = width := by
  simp [decimals]

theorem decimals_lt_ten {m width x : Nat} (h : x ∈ decimals m width) : x < 10 := by
  obtain ⟨i, -, rfl⟩ := List.mem_map.mp h
  exact Nat.mod_lt _ (by decide)

theorem reverse_decimals (m width : Nat) : (decimals m width).reverse = (List.range width).map fun i => m / 10 ^ i % 10 := by
  refine List.ext_getElem (by simp [decimals]) fun i hi _ => ?_
  simp only [List.length_reverse, length_decimals] at hi
  have hback : width - 1 - (width - 1 - i) = i := by omega
  simp [decimals, hback]

/-- The digits of a magnitude, the lowest first, make its remainder. -/
theorem ofDigits_range (m width : Nat) : Nat.ofDigits 10 ((List.range width).map fun i => m / 10 ^ i % 10) = m % 10 ^ width := by
  induction width with
  | zero => simp [Nat.mod_one]
  | succ width ih =>
    rw [List.range_succ, List.map_append, Nat.ofDigits_append, ih, Nat.mod_pow_succ]
    simp

theorem ofDigits_decimals {m width : Nat} (h : m < 10 ^ width) : Nat.ofDigits 10 (decimals m width).reverse = m := by
  rw [reverse_decimals, ofDigits_range, Nat.mod_eq_of_lt h]

/-! ## The value of a register (R34) -/

/-- The number of cells of the minus: M of R34. -/
def minusCells (v : Int) : Nat := if v < 0 then 1 else 0

/-- The number of cells that show a digit of a value that fits (R34). -/
def Binding.digitRow (b : Binding) (v : Int) : Nat :=
  if b.suppress = true then max (decimalDigits v.natAbs) b.digitCells else b.count - minusCells v

section
variable {b : Binding} {v : Int}

theorem Binding.fits_iff : b.fits v = true ↔ max (decimalDigits v.natAbs) b.digitCells + minusCells v ≤ b.count :=
  decide_eq_true_iff

theorem Binding.showValue_overflow (h : b.count < max (decimalDigits v.natAbs) b.digitCells + minusCells v) :
    b.showValue v = .minus true :=
  if_neg fun hfits => Nat.not_lt.mpr (Binding.fits_iff.mp hfits) h

/-- A value that fits: blanks, the minus, and the digits (R34). -/
theorem Binding.showValue_fits (h : max (decimalDigits v.natAbs) b.digitCells + minusCells v ≤ b.count) :
    b.showValue v =
      .value (List.replicate (b.count - minusCells v - b.digitRow v) .blank ++ List.replicate (minusCells v) .minus ++
        (decimals v.natAbs (b.digitRow v)).map .digit) := by
  rw [← digitGlyphs_eq]
  refine (if_pos (Binding.fits_iff.mpr h)).trans ?_
  cases hs : b.suppress with
  | true =>
    have hrow : b.digitRow v = max (decimalDigits v.natAbs) b.digitCells := if_pos hs
    rw [hrow, Nat.sub_right_comm]
    rfl
  | false =>
    have hrow : b.digitRow v = b.count - minusCells v := if_neg (by simp [hs])
    rw [hrow, Nat.sub_self]
    by_cases hv : v < 0
    · simp [hv, minusCells]
    · simp [hv, minusCells]

theorem Binding.decimalDigits_le_digitRow (h : max (decimalDigits v.natAbs) b.digitCells + minusCells v ≤ b.count) :
    decimalDigits v.natAbs ≤ b.digitRow v := by
  unfold Binding.digitRow
  split <;> omega

end

/-! ## Four digits with leading zeros suppressed (R35, R36) -/

/-- Suppression cell by cell: one of the first `n` cells is blank where it and every cell to its left hold 0 (R35). -/
theorem getElem?_suppressLeading (n : Nat) (ds : List Nat) (k : Nat) :
    (suppressLeading n (ds.map .digit))[k]? =
      ds[k]?.map fun x => if k < n ∧ ∀ j ≤ k, ds[j]? = some 0 then .blank else .digit x := by
  induction ds generalizing n k with
  | nil => simp [suppressLeading]
  | cons x rest ih =>
    match n, x with
    | 0, x =>
      have hkept : suppressLeading 0 ((x :: rest).map .digit) = (x :: rest).map .digit := by simp [suppressLeading]
      rw [hkept, List.getElem?_map]
      simp only [Nat.not_lt_zero, false_and, if_false]
    | n + 1, x + 1 =>
      have hstops : ¬∀ j ≤ k, ((x + 1) :: rest)[j]? = some 0 := fun h => by simpa using h 0 (Nat.zero_le k)
      have hkept : suppressLeading (n + 1) (((x + 1) :: rest).map .digit) = ((x + 1) :: rest).map .digit := by
        simp [suppressLeading]
      rw [hkept, List.getElem?_map]
      simp only [hstops, and_false, if_false]
    | n + 1, 0 =>
      cases k with
      | zero => simp [suppressLeading]
      | succ k =>
        have hleft : (k + 1 < n + 1 ∧ ∀ j ≤ k + 1, (0 :: rest)[j]? = some 0) ↔ k < n ∧ ∀ j ≤ k, rest[j]? = some 0 := by
          refine and_congr (Nat.add_lt_add_iff_right) ⟨fun h j hj => h (j + 1) (Nat.succ_le_succ hj), fun h j hj => ?_⟩
          cases j with
          | zero => rfl
          | succ j => exact h j (Nat.le_of_succ_le_succ hj)
        simp only [List.map_cons, suppressLeading, List.getElem?_cons_succ, ih, hleft]

/-- The cells of a four-digit field, by its suppression and its point (R35). -/
def Binding.fourCells (b : Binding) (d : Vector Nat 4) : List Glyph :=
  (List.finRange 4).map fun k =>
    if b.suppress = true ∧ k.val < b.blankable ∧ ∀ j : Fin 4, j ≤ k → d[j] = 0 then .blank else .digit d[k]

section
variable {b : Binding}

theorem Binding.fourCells_plain (h : b.suppress = false) (d : Vector Nat 4) : b.fourCells d = d.toList.map .digit := by
  refine List.ext_getElem (by simp [Binding.fourCells]) fun k _ _ => ?_
  simp [Binding.fourCells, h]

theorem Binding.fourCells_suppressed (h : b.suppress = true) (d : Vector Nat 4) :
    b.fourCells d = suppressLeading b.blankable (d.toList.map .digit) := by
  refine List.ext_getElem? fun k => ?_
  rw [getElem?_suppressLeading]
  by_cases hk : k < 4
  · have hzeros : (∀ j : Fin 4, j ≤ ⟨k, hk⟩ → d[j] = 0) ↔ ∀ j ≤ k, d[j]? = some 0 := by
      constructor
      · intro hall j hj
        simpa [Nat.lt_of_le_of_lt hj hk] using hall ⟨j, Nat.lt_of_le_of_lt hj hk⟩ hj
      · intro hall j hj
        simpa using hall j.val hj
    simp [Binding.fourCells, h, hk, ← hzeros]
  · simp [Binding.fourCells, hk]

theorem digitGlyphs_four (n : Nat) :
    digitGlyphs n 4 = (#v[n / 1000 % 10, n / 100 % 10, n / 10 % 10, n % 10] : Vector Nat 4).toList.map .digit := by
  simp [digitGlyphs, List.range_succ]

theorem Binding.showFour_eq (b : Binding) (n : Nat) :
    b.showFour n = .value (b.fourCells #v[n / 1000 % 10, n / 100 % 10, n / 10 % 10, n % 10]) := by
  rw [Binding.showFour, digitGlyphs_four]
  cases h : b.suppress with
  | false => rw [Binding.fourCells_plain h]; rfl
  | true => rw [Binding.fourCells_suppressed h]; rfl

/-- Two numbers of two digits side by side (R30). -/
theorem Binding.showFour_pair (b : Binding) {m n : Nat} (hm : m ≤ 99) (hn : n ≤ 99) :
    b.showFour (m * 100 + n) = .value (b.fourCells #v[m / 10, m % 10, n / 10, n % 10]) := by
  have h1 : (m * 100 + n) / 1000 % 10 = m / 10 := by omega
  have h2 : (m * 100 + n) / 100 % 10 = m % 10 := by omega
  have h3 : (m * 100 + n) / 10 % 10 = n / 10 := by omega
  have h4 : (m * 100 + n) % 10 = n % 10 := by omega
  rw [Binding.showFour_eq, h1, h2, h3, h4]

/-! ## The sources of a binding (R30, R35, R36) -/

section
variable {values : Vector Int 8} {c : Calendar} {remain : RemainSource}

theorem Binding.showing_value {r : Fin 8} (h : b.source = .value) (hr : b.register = r.val) :
    b.showing values c remain = b.showValue values[r] := by
  simp [Binding.showing, h, hr]

theorem Binding.showing_remain (h : b.source = .remain) : b.showing values c remain = b.showRemain remain := by
  simp only [Binding.showing, h]

theorem Binding.showCalendar_invalid (h : c.state = .invalid) (n : Nat) : b.showCalendar c n = .minus false := by
  simp only [Binding.showCalendar, h]

theorem Binding.showCalendar_valid (h : c.state ≠ .invalid) (n : Nat) : b.showCalendar c n = b.showFour n := by
  unfold Binding.showCalendar
  split
  · exact absurd ‹_› h
  · rfl

theorem Binding.showing_invalid (hsource : b.source = .clockHM ∨ b.source = .clockMS ∨ b.source = .dateDM ∨ b.source = .dateY)
    (h : c.state = .invalid) : b.showing values c remain = .minus false := by
  unfold Binding.showing
  rcases hsource with hs | hs | hs | hs <;> rw [hs] <;> exact Binding.showCalendar_invalid h _

/-- A calendar source shows its two parts while the calendar is not INVALID (R35). -/
theorem Binding.showing_calendar (hvalid : c.state ≠ .invalid) {m n : Nat} (hm : m ≤ 99) (hn : n ≤ 99)
    (h : b.showing values c remain = b.showCalendar c (m * 100 + n)) :
    b.showing values c remain = .value (b.fourCells #v[m / 10, m % 10, n / 10, n % 10]) := by
  rw [h, Binding.showCalendar_valid hvalid, b.showFour_pair hm hn]

theorem Binding.showRemain_timed {r : Nat} (h : r ≤ 5999) :
    b.showRemain (some (some r)) = .value (b.fourCells #v[r / 60 / 10, r / 60 % 10, r % 60 / 10, r % 60 % 10]) :=
  (if_pos h).trans (b.showFour_pair (by omega) (by omega))

theorem Binding.showRemain_long {r : Nat} (h : 5999 < r) : b.showRemain (some (some r)) = .minus true :=
  if_neg (Nat.not_le.mpr h)

end

end

/-- Settles O25: the layout of R34 by `Binding.showValue_fits`, and the four digits of R35 and R36 by `Binding.showFour_pair`. -/
theorem fieldsShowTheirSources : Obligations.FieldsShowTheirSources := by
  unfold Obligations.FieldsShowTheirSources
  refine ⟨?_, fun b values c remain r => Binding.showing_value, ?_⟩
  · intro b v _ hlow hhigh n m digits k
    have hsmall : v.natAbs < 10 ^ 10 := by norm_num; omega
    have hdigits : digits = decimalDigits v.natAbs := (decimalDigits_eq hsmall).symm
    have hk : k = b.digitCells := rfl
    have hm : m = minusCells v := rfl
    rw [hdigits, hk, hm]
    refine ⟨Binding.showValue_overflow, fun hfits => ⟨decimals v.natAbs (b.digitRow v), length_decimals _ _,
      fun x => decimals_lt_ten, ofDigits_decimals (lt_pow_of_decimalDigits_le hsmall (Binding.decimalDigits_le_digitRow hfits)), ?_⟩⟩
    rw [length_decimals]
    exact Binding.showValue_fits hfits
  · intro b values c remain hfields f stop cells pair
    obtain ⟨hyear, hyear', -, hmonth, -, hday, hhour, hminute, hsecond, -⟩ : f.Ok := hfields
    have hlength := (monthLength_bounds f.year f.month).2
    have hdayBound : f.day ≤ 31 := Nat.le_trans hday hlength
    refine ⟨Binding.showing_invalid, fun hvalid => ⟨fun hs => ?_, fun hs => ?_, fun hs => ?_, fun hs => ?_⟩, fun hs => ?_⟩
    · exact Binding.showing_calendar hvalid (by omega) (by omega) (by simp only [Binding.showing, hs]; rfl)
    · exact Binding.showing_calendar hvalid (by omega) (by omega) (by simp only [Binding.showing, hs]; rfl)
    · exact Binding.showing_calendar hvalid (by omega) (by omega) (by simp only [Binding.showing, hs]; rfl)
    · have hparts : c.fields.year = f.year / 100 * 100 + f.year % 100 := (Nat.div_add_mod' _ _).symm
      exact Binding.showing_calendar hvalid (by omega) (by omega) (by simp only [Binding.showing, hs, ← hparts])
    · rw [Binding.showing_remain hs]
      refine ⟨?_, ?_, ?_⟩
      · rintro (rfl | rfl) <;> rfl
      · rintro r rfl hr
        exact Binding.showRemain_timed hr
      · rintro r rfl hr
        exact Binding.showRemain_long hr

end Sys2Proof.Machine
end

section
/-! PROOFS. The composed frame dot by dot (R41, R52 to R56), and the requests that set and read the display (R43, R46, R48). -/
namespace Sys2Proof.Machine
open Sys2Proof

/-! ## The stages of a frame, dot by dot (R41, R52 to R55) -/

/-- The commons a duty drives are those below it (R41). -/
theorem getLsbD_activeCommons {c : Nat} (hc : c < 8) (duty : Nat) : (activeCommons duty).getLsbD c = decide (c < duty) := by
  rw [activeCommons, BitVec.getLsbD_ofNat, Nat.testBit_two_pow_sub_one, decide_eq_true hc, Bool.true_and]

/-- The rows of a frame: the commons of the duty that the row mask lets through (R41, R54). -/
def frameRows (glass : Glass) (display : Display) : Byte := activeCommons glass.duty &&& display.rowMask

theorem getLsbD_frameRows {c : Nat} (hc : c < 8) (glass : Glass) (display : Display) :
    (frameRows glass display).getLsbD c = (decide (c < glass.duty) && display.rowMask.getLsbD c) := by
  rw [frameRows, BitVec.getLsbD_and, getLsbD_activeCommons hc]

section
variable {c s : Nat} {d : Dots}

theorem Dots.has_map1 (f : Byte → Byte) (hs : s < 48) : Dots.has (Dots.map1 f d) c s = (f d[s]).getLsbD c := by
  simp [Dots.has, Dots.map1, hs]

theorem Dots.has_getElem (hs : s < 48) : Dots.has d c s = d[s].getLsbD c := by
  simp [Dots.has, hs]

theorem Dots.has_none (hs : s < 48) : Dots.has Dots.none c s = false := by
  simp [Dots.has, Dots.none, hs]

theorem Dots.has_replicate (b : Byte) (hs : s < 48) : Dots.has (Vector.replicate 48 b) c s = b.getLsbD c := by
  simp [Dots.has, hs]

/-- Blinking turns a dot off exactly when the mask holds it and the phase is off (R52). -/
theorem Dots.has_blinkStage (mask : Option Dots) (blinkOn : Bool) (hc : c < 8) (hs : s < 48) :
    Dots.has (blinkStage mask blinkOn d) c s =
      (Dots.has d c s && !((mask.map fun m => Dots.has m c s).getD false && !blinkOn)) := by
  cases mask with
  | none => simp [blinkStage]
  | some m =>
    cases blinkOn with
    | true => simp [blinkStage]
    | false =>
      have hsegment : (Dots.map2 (fun i w => i &&& ~~~w) d m)[s] = d[s] &&& ~~~m[s] := Dots.getElem_map2 _ d m ⟨s, hs⟩
      rw [blinkStage, if_neg Bool.false_ne_true, Dots.has_getElem hs, hsegment]
      simp [Dots.has_getElem hs, hc]

/-- The picture of stages 3 to 5: blinked, turned over where the frame inverts, and forced to the rows (R52 to R54). -/
def shownImage (rows : Byte) (inverts blinkOn : Bool) (mask : Option Dots) (picture : Dots) : Dots :=
  Dots.map1 (· &&& rows)
    (if inverts then Dots.map1 (· ^^^ rows) (blinkStage mask blinkOn picture) else blinkStage mask blinkOn picture)

/-- Inversion turns over every dot of the rows, and the dots outside the rows are forced off (R53, R54). -/
theorem Dots.has_shownImage (rows : Byte) (inverts blinkOn : Bool) (mask : Option Dots) (hs : s < 48) :
    Dots.has (shownImage rows inverts blinkOn mask d) c s =
      (rows.getLsbD c && (Dots.has (blinkStage mask blinkOn d) c s != inverts)) := by
  rw [shownImage, Dots.has_map1 _ hs, BitVec.getLsbD_and, Bool.and_comm]
  cases inverts with
  | false => simp [Dots.has_getElem hs]
  | true =>
    rw [if_pos rfl, ← Dots.has_getElem hs, Dots.has_map1 _ hs, BitVec.getLsbD_xor, ← Dots.has_getElem hs]
    cases rows.getLsbD c <;> simp

end

/-- While the part shows its pages, the frame driven is the picture of the stages (R55). -/
theorem compose_shown {glass : Glass} {display : Display} (h : display.mode = .shown) (blinkOn latched : Bool)
    (mask : Option Dots) (picture : Dots) :
    compose glass display blinkOn latched mask picture =
      .scanned glass.duty display.contrast
        (shownImage (frameRows glass display) (display.invert && latched) blinkOn mask picture) := by
  simp only [compose, h]
  rfl

/-- Settles O28: the stages of the picture dot by dot, under the display mode that chooses what is driven (R55). -/
theorem composedDotFollowsTheStages : Obligations.ComposedDotFollowsTheStages := by
  unfold Obligations.ComposedDotFollowsTheStages
  intro glass display blinkOn latched mask picture drive row masked shows
  have hrow {c : Nat} (hc : c < 8) : (frameRows glass display).getLsbD c = row c := getLsbD_frameRows hc glass display
  refine ⟨fun hoff => ?_, fun hdark => ⟨Vector.replicate 48 (frameRows glass display), ?_, fun c s hc hs => ?_⟩,
    fun hclear => ⟨Dots.none, ?_, fun c s _ hs => Dots.has_none hs⟩,
    fun hshown => ⟨_, compose_shown hshown blinkOn latched mask picture, fun c s hc hs => ?_⟩⟩
  · simp only [drive, compose, hoff]
  · simp only [drive, compose, hdark, frameRows]
  · rw [Dots.has_replicate _ hs, hrow hc]
  · simp only [drive, compose, hclear]
  · rw [Dots.has_shownImage _ _ _ _ hs, Dots.has_blinkStage mask blinkOn hc hs, hrow hc]

/-! ## The payload of SET_GLASS and SET_DISPLAY (R43, R46) -/

/-- A frame rate is read by its code (R42). -/
theorem readRate_eq {b : Byte} {rate : FrameRate} (h : rate.code = b.toNat) : readRate b = some rate := by
  unfold readRate
  rw [← h]
  cases rate <;> rfl

/-- A rate code in range is one of the rates' (R42). -/
theorem exists_rate {b : Byte} (h : b.toNat ≤ 2) : ∃ rate : FrameRate, rate.code = b.toNat := by
  match hb : b.toNat, h with
  | 0, _ => exact ⟨.f32, rfl⟩
  | 1, _ => exact ⟨.f64, rfl⟩
  | 2, _ => exact ⟨.f128, rfl⟩

/-- A rate code out of range is not read (R42). -/
theorem readRate_none {b : Byte} (h : ¬b.toNat ≤ 2) : readRate b = none := by
  unfold readRate
  split
  case h_4 => rfl
  all_goals omega

/-- A display mode is read by its code (R45). -/
theorem readMode_eq {b : Byte} {mode : Mode} (h : mode.code = b.toNat) : readMode b = some mode := by
  unfold readMode
  rw [← h]
  cases mode <;> rfl

/-- A mode code out of range is not read (R45). -/
theorem readMode_none {b : Byte} (h : 3 < b.toNat) : readMode b = none := by
  unfold readMode
  split
  case h_5 => rfl
  all_goals omega

/-- A one-byte flag in range is on exactly when it is 1 (R173). -/
theorem readFlag_eq {b : Byte} (h : b.toNat ≤ 1) : readFlag b = some (decide (b = 1)) := by
  rcases Nat.le_one_iff_eq_zero_or_eq_one.mp h with h | h
  · obtain rfl : b = 0 := BitVec.eq_of_toNat_eq h
    rfl
  · obtain rfl : b = 1 := BitVec.eq_of_toNat_eq h
    rfl

section
variable {duty rate : Byte}

/-- Glass settings in range are read as they stand (R43). -/
theorem readGlass_eq {r : FrameRate} (hrate : r.code = rate.toNat) (hduty : 1 ≤ duty.toNat ∧ duty.toNat ≤ 8) :
    readGlass duty rate = some ⟨duty.toNat, r⟩ := by
  simp only [readGlass, readRate_eq hrate, if_pos hduty]

theorem exists_readGlass (h : 1 ≤ duty.toNat ∧ duty.toNat ≤ 8 ∧ rate.toNat ≤ 2) : ∃ g, readGlass duty rate = some g :=
  have ⟨_, hrate⟩ := exists_rate h.2.2
  ⟨_, readGlass_eq hrate ⟨h.1, h.2.1⟩⟩

/-- Glass settings out of range are not read (R43 order 1). -/
theorem readGlass_none (h : ¬(1 ≤ duty.toNat ∧ duty.toNat ≤ 8 ∧ rate.toNat ≤ 2)) : readGlass duty rate = none := by
  by_cases hrate : rate.toNat ≤ 2
  · obtain ⟨_, hr⟩ := exists_rate hrate
    have hduty : ¬(1 ≤ duty.toNat ∧ duty.toNat ≤ 8) := fun hd => h ⟨hd.1, hd.2, hrate⟩
    simp only [readGlass, readRate_eq hr, if_neg hduty]
  · simp only [readGlass, readRate_none hrate]

end

section
variable {mode invert contrast rowMask : Byte}

/-- Display settings in range are read as they stand (R46). -/
theorem readDisplay_eq {m : Mode} (hmode : m.code = mode.toNat) (hinvert : invert.toNat ≤ 1) (hcontrast : contrast.toNat ≤ 15) :
    readDisplay mode invert contrast rowMask = some ⟨m, decide (invert = 1), contrast.toNat, rowMask⟩ := by
  simp only [readDisplay, readMode_eq hmode, readFlag_eq hinvert, if_pos hcontrast]

/-- Display settings out of range are not read (R46). -/
theorem readDisplay_none (h : 3 < mode.toNat ∨ 1 < invert.toNat ∨ 15 < contrast.toNat) :
    readDisplay mode invert contrast rowMask = none := by
  unfold readDisplay
  rcases h with hmode | hinvert | hcontrast
  · rw [readMode_none hmode]
  · rw [readFlag_none (Nat.not_le.mpr hinvert)]
    cases readMode mode <;> rfl
  · split
    · exact if_neg (Nat.not_le.mpr hcontrast)
    · rfl

end

/-! ## SET_GLASS, SET_DISPLAY and GET_DISPLAY (R43, R46, R48) -/

/-- What SET_GLASS makes of glass settings in range (R43 orders 2 and 3). -/
def State.takeGlass (s : State) (g : Glass) : Taken :=
  if s.frame.display.mode ≠ .off then .no .wrongState
  else if s.archiveBusy then .no .archiveBusy
  else .ok [] (s.setFrame { s.frame with glass := g }).markDirty

section
variable {s : State} {g : Glass}

theorem State.takeGlass_shown (h : s.frame.display.mode ≠ .off) : s.takeGlass g = .no .wrongState := if_pos h

theorem State.takeGlass_busy (hmode : s.frame.display.mode = .off) (h : s.archive.op ≠ .none) :
    s.takeGlass g = .no .archiveBusy :=
  (if_neg (not_not.mpr hmode)).trans (if_pos (State.archiveBusy_iff.mpr h))

theorem State.takeGlass_free (hmode : s.frame.display.mode = .off) (h : s.archive.op = .none) :
    s.takeGlass g = .ok [] (s.setFrame { s.frame with glass := g }).markDirty :=
  (if_neg (not_not.mpr hmode)).trans (if_neg fun hbusy => State.archiveBusy_iff.mp hbusy h)

/-- SET_GLASS with settings in range (R43). -/
theorem exec_setGlass {tag duty rate : Byte} (hr : s.link.handed = some ⟨tag, 0x18, [duty, rate]⟩)
    (hg : readGlass duty rate = some g) :
    exec (.setGlass tag duty rate) s = .next (s.unhand.conclude tag (s.unhand.takeGlass g)) := by
  refine congrArg _ ((takeRequest_handed hr).trans ?_)
  simp only [hg]
  rfl

end

/-- Settles O27: each request reads its payload, and SET_GLASS then makes its two checks in their order. -/
theorem glassAndDisplayRequests : Obligations.GlassAndDisplayRequests := by
  unfold Obligations.GlassAndDisplayRequests
  refine ⟨?_, ?_, ?_⟩
  · rintro tag duty rate s ⟨_, ⟨⟩, hr⟩ c inRange
    refine ⟨fun hbad => congrArg _ (takeRequest_refused hr ?_), fun hin hmode => ?_, fun hin hmode hop => ?_,
      fun code hcode hin hmode hop => ?_⟩
    · simp only [readGlass_none hbad, Taken.no]
    · obtain ⟨g, hg⟩ := exists_readGlass hin
      rw [exec_setGlass hr hg, State.takeGlass_shown (s := s.unhand) hmode]
      rfl
    · obtain ⟨g, hg⟩ := exists_readGlass hin
      rw [exec_setGlass hr hg, State.takeGlass_busy (s := s.unhand) hmode hop]
      rfl
    · rw [exec_setGlass hr (readGlass_eq hcode ⟨hin.1, hin.2.1⟩), State.takeGlass_free (s := s.unhand) hmode hop]
      rfl
  · rintro tag mode invert contrast rowMask s ⟨_, ⟨⟩, hr⟩ c
    refine ⟨fun hbad => congrArg _ (takeRequest_refused hr ?_),
      fun m hmode hinvert hcontrast => congrArg _ ((takeRequest_handed hr).trans ?_)⟩
    · simp only [readDisplay_none hbad, Taken.no]
    · simp only [readDisplay_eq hmode hinvert hcontrast]
      rfl
  · rintro tag s ⟨_, ⟨⟩, hr⟩
    exact congrArg Host.Outcome.next (takeRequest_ok (t := s.unhand) hr rfl)

end Sys2Proof.Machine
end

section
/-! PROOFS. The firings of a minute start, MINUTE_START and the hand-off commands (R118 to R126), and the crystal's changes with the
ticks of the prescaler (R57, R92 to R95, R106, R108). -/
namespace Sys2Proof.Machine
open Sys2Proof

/-! ## The firings of a minute start (R118, R119) -/

theorem partMatches_iff {part : Option Nat} {value : Nat} : partMatches part value = true ↔ ∀ x, part = some x → x = value := by
  cases part <;> simp [partMatches]

theorem DayPart.allows_iff {d : DayPart} {m : MinuteStart} :
    d.allows m = true ↔ (∀ x, d = .dayOfMonth x → x = m.day) ∧ ∀ set, d = .weekdays set → set.getLsbD m.weekday = true := by
  cases d <;> simp [DayPart.allows]

/-- The four parts of a pattern match a minute start, an absent part in any case (R118). -/
theorem Pattern.allows_iff {p : Pattern} {m : MinuteStart} :
    p.allows m = true ↔
      (∀ x, p.minute = some x → x = m.minute) ∧ (∀ x, p.hour = some x → x = m.hour) ∧
      (∀ x, p.day = .dayOfMonth x → x = m.day) ∧ (∀ set, p.day = .weekdays set → set.getLsbD m.weekday = true) ∧
      (∀ x, p.month = some x → x = m.month) := by
  simp only [Pattern.allows, Bool.and_eq_true, partMatches_iff, DayPart.allows_iff, and_assoc]

/-- A slot fires exactly when it holds an ARMED entry whose pattern matches (R118, R119). -/
theorem Slot.firing_iff {m : MinuteStart} {i : Nat} {x : Slot} {f : Firing} :
    x.firing m i = some f ↔
      f.slot = i ∧ f.start = m ∧ x = .holds .armed f.entry ∧ f.entry.pattern.allows m = true := by
  obtain ⟨slot, entry, start⟩ := f
  constructor
  · intro h
    unfold Slot.firing at h
    split at h
    · split at h
      · cases h
        exact ⟨rfl, rfl, rfl, ‹_›⟩
      · cases h
    · cases h
  · rintro ⟨rfl, rfl, rfl, hmatch⟩
    exact if_pos hmatch

/-- The firings of a minute start are those of the ARMED slots that match it (R118, R119). -/
theorem Schedule.mem_firings_iff {sc : Schedule} {m : MinuteStart} {f : Firing} :
    f ∈ sc.firings m ↔
      f.start = m ∧ sc.slots[f.slot]? = some (.holds .armed f.entry) ∧ f.entry.pattern.allows m = true := by
  simp only [Schedule.firings, List.mem_filterMap, Prod.exists, List.mem_zipIdx_iff_getElem?, Slot.firing_iff]
  constructor
  · rintro ⟨x, i, hx, rfl, hstart, rfl, hmatch⟩
    exact ⟨hstart, by simpa using hx, hmatch⟩
  · rintro ⟨hstart, hslot, hmatch⟩
    exact ⟨_, f.slot, by simpa using hslot, rfl, hstart, rfl, hmatch⟩

/-! ## One firing (R120 to R122) -/

/-- A CLEAR_BELOW, its reports listed one after another (R83). -/
theorem State.takeClearBelow_eq (s : State) (priority : Nat) :
    s.takeClearBelow priority =
      ((s.stack.records.filter fun o => decide (o.priority ≤ priority)).foldl (fun u o => u.offer .overrideEnded o.page 2)
        (s.setStack
          { s.stack with records := s.stack.records.filter fun o => decide (priority < o.priority) })).recompute := by
  have hkept : (fun o : Override => !decide (o.priority ≤ priority)) = fun o => decide (priority < o.priority) := by
    funext o
    rw [← decide_not, decide_eq_decide, Nat.not_le]
  rw [State.takeClearBelow, State.endOverrides, State.offerEnded_eq_foldl, hkept]

/-! ## The walk of a minute start (R119, R126) -/

/-- A walk of a RUNNING calendar is completed as the fold of its firings (R119). -/
theorem State.finishWalk_eq_foldl {s : State} (h : s.calendar.state = .running) :
    s.finishWalk = s.schedule.walk.foldl State.fire (s.setSchedule { s.schedule with walk := [] }) :=
  (if_pos h).trans (s.fireMany_eq_foldl s.schedule.walk rfl)

/-- A walk that is unfinished comes before the minute starts that wait (R119). -/
theorem State.beginWalk_of_walk {s : State} (h : s.schedule.walk ≠ []) : s.beginWalk = s := by
  unfold State.beginWalk
  split
  · exact absurd ‹_› h
  · rfl

/-- A part whose calendar is not RUNNING fires nothing, and drops what it would have taken (R126; log entry 26). -/
theorem State.takeMinute_stopped {s : State} (h : s.calendar.state ≠ .running) :
    s.takeMinute = s.setSchedule
      { s.schedule with
        walk := []
        minuteStarts := if s.schedule.walk = [] then s.schedule.minuteStarts.drop 1 else s.schedule.minuteStarts } := by
  have hdrop (t : State) (ht : t.calendar.state ≠ .running) : t.finishWalk = t.setSchedule { t.schedule with walk := [] } :=
    if_neg ht
  by_cases hw : s.schedule.walk = []
  · rw [if_pos hw, State.takeMinute, State.beginWalk, hw]
    cases hm : s.schedule.minuteStarts with
    | nil =>
      refine (hdrop s h).trans (congrArg s.setSchedule ?_)
      rw [List.drop_nil, ← hm]
    | cons m rest => exact hdrop _ h
  · rw [if_neg hw, State.takeMinute, State.beginWalk_of_walk hw]
    exact hdrop s h

/-! ## The minute starts that wait (log entry 26) -/

theorem State.takeMinutes_succ (s : State) (n : Nat) : s.takeMinutes (n + 1) = (s.takeMinutes n).takeMinute := by
  induction n generalizing s with
  | zero => rfl
  | succ n ih => exact ih s.takeMinute

/-- With no walk unfinished, a taking for each minute start that waits takes them all. -/
theorem State.takeWaiting_of_walk_nil {s : State} (h : s.schedule.walk = []) :
    s.takeWaiting = s.takeMinutes s.schedule.minuteStarts.length := by
  obtain ⟨hwalk, hstarts⟩ := s.takeMinutes_empty s.schedule.minuteStarts.length (by rw [if_pos h]; exact Nat.le_refl _)
  rw [State.takeWaiting, State.takeMinutes_succ, State.takeMinute_of_idle hwalk hstarts]

/-- The minute starts that wait are one MINUTE_START and then those that still wait. -/
theorem State.takeWaiting_takeMinute (s : State) : s.takeWaiting = s.takeMinute.takeWaiting := by
  obtain ⟨hwalk, ⟨-, hfewer⟩ | ⟨-, hsame⟩⟩ := s.takeMinute_cases
  · cases hm : s.schedule.minuteStarts with
    | nil =>
      rw [hm] at hfewer
      rw [State.takeWaiting_of_walk_nil hwalk, hfewer, State.takeWaiting, hm]
      rfl
    | cons m rest =>
      rw [hm] at hfewer
      rw [State.takeWaiting, State.takeWaiting, hfewer, hm]
      rfl
  · rw [State.takeWaiting_of_walk_nil hwalk, hsame]
    rfl

/-- Settles O51: the firings are `Schedule.mem_firings_iff`, the walk is the fold of `State.fire` over them, and a firing is its
action, its report and its SPENT marking. -/
theorem minuteStartFiresArmedMatches : Obligations.MinuteStartFiresArmedMatches := by
  unfold Obligations.MinuteStartFiresArmedMatches
  intro acted reported spent fired
  have hacted (t : State) (f : Firing) : acted t f = t.handAction f.slot f.entry.action := by
    simp only [acted]
    cases f.entry.action with
    | showPage page priority duration => rfl
    | selectList list => rfl
    | clearBelow priority => exact (t.takeClearBelow_eq priority).symm
    | display mode => rfl
  have hnoted (t : State) (f : Firing) : spent (reported t f) f = t.noteFiring f := by
    have hcode : reported t f = t.reportFiring f := by
      simp only [reported, State.reportFiring]
      cases f.entry.action <;> rfl
    rw [hcode]
    rfl
  have hfired : fired = State.fire := by
    funext t f
    exact (hnoted _ f).trans (congrArg (State.noteFiring · f) (hacted t f))
  rw [hfired]
  refine ⟨fun sc m => ⟨sc.firings_sorted m, fun f => ?_⟩, fun s hrunning => ⟨fun m rest hwalk hstarts => ?_, fun hwalk => ?_⟩,
    fun s hstopped => congrArg _ (State.takeMinute_stopped hstopped), fun s => ⟨fun hwalk hstarts => ?_, fun t ht => ?_⟩⟩
  · rw [Schedule.mem_firings_iff, Pattern.allows_iff]
  · exact congrArg _ (State.takeMinute_eq_foldl hrunning hwalk hstarts)
  · have hbegun : s.takeMinute = s.finishWalk := by rw [State.takeMinute, State.beginWalk_of_walk hwalk]
    exact congrArg _ (hbegun.trans (State.finishWalk_eq_foldl hrunning))
  · exact ⟨congrArg _ (State.takeMinute_of_idle hwalk hstarts), State.takeWaiting_of_idle hwalk hstarts⟩
  · obtain rfl := Host.Outcome.next.inj ht
    exact s.takeWaiting_takeMinute

/-! ## The hand-off commands (R119, R126) -/

/-- The next firing of the schedule, with the firings and the minute starts behind it: the front of the walk, or the first firing of
the oldest minute start (R119). -/
def State.NextFiring (s : State) (f : Firing) (rest : List Firing) (more : List MinuteStart) : Prop :=
  (s.schedule.walk = f :: rest ∧ more = s.schedule.minuteStarts) ∨
    (s.schedule.walk = [] ∧ ∃ m, s.schedule.minuteStarts = m :: more ∧ s.schedule.firings m = f :: rest)

/-- No firing is left of the walk, and the oldest minute start has none (R119). -/
def State.NothingFires (s : State) : Prop :=
  s.schedule.walk = [] ∧ ∀ m ∈ s.schedule.minuteStarts.head?, s.schedule.firings m = []

section
variable {s : State}

/-- A hand-off of another calendar than a RUNNING one does nothing (R126). -/
theorem State.handDue_stopped (h : s.calendar.state ≠ .running) (isIt : Firing → Bool) : s.handDue isIt = s := by
  unfold State.handDue
  split
  · exact absurd ‹_› h
  · rfl

/-- Without a firing a hand-off does nothing (log entry 5). -/
theorem State.handDue_nothing (h : s.NothingFires) (isIt : Firing → Bool) : s.handDue isIt = s := by
  obtain ⟨hwalk, hfirings⟩ := h
  have hempty : s.beginWalk.schedule.walk = [] := by
    unfold State.beginWalk
    split
    · rename_i m rest _ hstarts
      exact hfirings m (by rw [hstarts]; rfl)
    · exact hwalk
  rw [State.handDue, hempty]
  cases s.calendar.state <;> rfl

end

section
variable {s : State} {f : Firing} {rest : List Firing} {more : List MinuteStart}

/-- The walk that a hand-off finds has the next firing at its front (R119). -/
theorem State.NextFiring.beginWalk_eq (h : s.NextFiring f rest more) :
    s.beginWalk = s.setSchedule { s.schedule with walk := f :: rest, minuteStarts := more } := by
  rcases h with ⟨hwalk, rfl⟩ | ⟨hwalk, m, hstarts, hfirings⟩
  · rw [State.beginWalk_of_walk (by rw [hwalk]; exact List.cons_ne_nil _ _), ← hwalk]
    rfl
  · rw [State.beginWalk, hwalk, hstarts, ← hfirings]

/-- A hand-off of a RUNNING calendar completes the next firing when it is the one named, and otherwise does nothing (R119). -/
theorem State.NextFiring.handDue_eq (h : s.NextFiring f rest more) (hrunning : s.calendar.state = .running)
    (isIt : Firing → Bool) :
    s.handDue isIt =
      if isIt f then (s.setSchedule { s.schedule with walk := rest, minuteStarts := more }).fire f else s := by
  rw [State.handDue, hrunning, h.beginWalk_eq]
  rfl

end

/-- Settles O53: each hand-off is `State.handDue` of its test, whose firing is its action and then its note. -/
theorem handOffsCompleteTheNextFiring : Obligations.HandOffsCompleteTheNextFiring := by
  unfold Obligations.HandOffsCompleteTheNextFiring
  constructor
  · intro s f rest more hrunning (hnext : s.NextFiring f rest more) base noted
    have hdue {isIt : Firing → Bool} (hit : isIt f = true) {code : Nat} (hcode : f.entry.action.code = code) :
        s.handDue isIt = noted code (base.handAction f.slot f.entry.action) := by
      rw [hnext.handDue_eq hrunning, if_pos hit, ← hcode]
      rfl
    have hother {isIt : Firing → Bool} (hit : ¬isIt f = true) : s.handDue isIt = s := by
      rw [hnext.handDue_eq hrunning, if_neg hit]
    refine ⟨fun slot page priority duration => ?_, fun list => ?_, fun priority => ?_, fun mode => ?_⟩
    · intro due
      have hit : (f.slot == slot.toNat &&
          f.entry.action == .showPage page.toNat priority.toNat duration.toNat) = true ↔ due := by
        rw [Bool.and_eq_true, beq_iff_eq, beq_iff_eq]
      refine ⟨fun h => congrArg _ ((hdue (hit.mpr h) (code := 1) (by rw [h.2]; rfl)).trans ?_),
        fun h => congrArg _ (hother (mt hit.mp h))⟩
      rw [h.1, h.2]
      rfl
    · refine ⟨fun l haction hlist => congrArg _ ((hdue ?_ (code := 2) (by rw [haction]; rfl)).trans ?_),
        fun h => congrArg _ (hother ?_)⟩
      · simp only [haction, hlist, beq_self_eq_true]
      · rw [haction]
        rfl
      · cases haction : f.entry.action with
        | selectList l => simpa using (h l haction).symm
        | _ => exact Bool.false_ne_true
    · have hit : (f.entry.action == .clearBelow priority.toNat) = true ↔ f.entry.action = .clearBelow priority.toNat :=
        beq_iff_eq
      refine ⟨fun haction => congrArg _ ((hdue (hit.mpr haction) (code := 3) (by rw [haction]; rfl)).trans ?_),
        fun h => congrArg _ (hother (mt hit.mp h))⟩
      rw [haction]
      exact congrArg (noted 3) (base.takeClearBelow_eq priority.toNat)
    · refine ⟨fun m haction hmode => congrArg _ ((hdue ?_ (code := 4) (by rw [haction]; rfl)).trans ?_),
        fun h => congrArg _ (hother ?_)⟩
      · simp only [haction, hmode, beq_self_eq_true]
      · rw [haction]
        rfl
      · cases haction : f.entry.action with
        | display m => simpa using (h m haction).symm
        | _ => exact Bool.false_ne_true
  · intro s c slot page priority list mode duration hc hnone
    have hidle (isIt : Firing → Bool) : s.handDue isIt = s :=
      hnone.elim (State.handDue_stopped · isIt) (State.handDue_nothing · isIt)
    simp only [List.mem_cons, List.not_mem_nil, or_false] at hc
    rcases hc with rfl | rfl | rfl | rfl <;> exact congrArg _ (hidle _)

/-! ## The crystal and the ticks of the prescaler (R57, R92 to R95, R106, R108) -/

/-- Settles O20: a happening of the crystal acts on a change of its status alone, and a tick by the phase. -/
theorem ticksAndCrystalChanges : Obligations.TicksAndCrystalChanges := by
  unfold Obligations.TicksAndCrystalChanges
  refine ⟨fun s => ⟨fun hrunning => ⟨?_, ?_⟩, fun hstopped => ⟨?_, ?_⟩⟩,
    fun s => ⟨fun hphase => ?_, fun hphase => ?_, rfl, rfl⟩⟩
  · change execCrystalStopped s = _
    rw [execCrystalStopped, hrunning]
  · change execCrystalResumed s = _
    rw [execCrystalResumed, hrunning]
  · change execCrystalStopped s = _
    rw [execCrystalStopped, hstopped]
  · change execCrystalResumed s = _
    rw [execCrystalResumed, hstopped]
    rfl
  · exact if_pos (State.listening_iff.mpr hphase)
  · exact if_neg (mt State.listening_iff.mp hphase)

end Sys2Proof.Machine
end

section
/-! PROOFS. The end of a restore: the image that passes its check is installed, step by step (R140). -/
namespace Sys2Proof.Machine
open Sys2Proof

/-! ## The drafts are freed (R140 step 2) -/

/-- A draft once a restore has passed: FREE where it was in DRAFT state (R140). -/
def Draft.freed : Draft → Draft
  | .editing _ _ => .free
  | x => x

/-- The report of a draft that a restore frees (R140). -/
def Draft.reportFreed (s : State) : Draft → State
  | .editing body _ => s.offer .draftEnded body.target 2
  | _ => s

theorem Draft.reportFreed_setStore (s : State) (st : PageStore) (x : Draft) :
    (x.reportFreed s).setStore st = x.reportFreed (s.setStore st) := by
  cases x <;> rfl

/-- The report of a freed draft changes the report queue alone. -/
theorem Draft.reportFreed_eq (s : State) (x : Draft) : x.reportFreed s = s.setReports (x.reportFreed s).reports := by
  cases x <;> rfl

theorem State.abandonDraft_stack (s : State) (d : Fin 2) : (s.abandonDraft d).stack = s.stack :=
  (s.abandonDraft_leaves d).2.1

/-- A draft of the store is freed, with its report (R140). -/
theorem State.abandonDraft_eq (s : State) (d : Fin 2) :
    s.abandonDraft d = s.store.drafts[d].reportFreed (s.setStore (s.store.setDraft d s.store.drafts[d].freed)) := by
  have hsame : s.setStore (s.store.setDraft d s.store.drafts[d]) = s := by rw [PageStore.setDraft_same]; rfl
  unfold State.abandonDraft
  cases hd : s.store.drafts[d] with
  | editing body idle => rfl
  | free => exact (hd ▸ hsame).symm
  | committing body => exact (hd ▸ hsame).symm

/-- Both drafts are freed, and draft 0 reports before draft 1 (R140). -/
theorem State.abandonDrafts_eq (s : State) :
    (s.abandonDraft 0).abandonDraft 1 = s.store.drafts[1].reportFreed (s.store.drafts[0].reportFreed (s.setStore
      { s.store with drafts := #v[s.store.drafts[0].freed, s.store.drafts[1].freed] })) := by
  have hstore : (s.abandonDraft 0).store = s.store.setDraft 0 s.store.drafts[0].freed := by
    rw [State.abandonDraft_eq, Draft.reportFreed_eq]; rfl
  have hdraft : (s.abandonDraft 0).store.drafts[(1 : Fin 2)] = s.store.drafts[1] := by
    rw [hstore]; simp [PageStore.setDraft]
  have hboth : (s.abandonDraft 0).store.setDraft 1 s.store.drafts[1].freed
      = { s.store with drafts := #v[s.store.drafts[0].freed, s.store.drafts[1].freed] } := by
    rw [hstore]
    refine congrArg (fun v => { s.store with drafts := v }) (Vector.ext fun i hi => ?_)
    match i, hi with
    | 0, _ => simp [PageStore.setDraft]
    | 1, _ => simp [PageStore.setDraft]
  rw [State.abandonDraft_eq (s.abandonDraft 0), hdraft, hboth, State.abandonDraft_eq, Draft.reportFreed_setStore]
  rfl

/-! ## The stack is emptied and the rotation re-seated (R140 steps 3 and 4) -/

/-- Every record of the stack ends, its reports listed one after another in age order (R140). -/
theorem State.endOverrides_all (s : State) (detail : Nat) :
    s.endOverrides (fun _ => true) detail =
      s.stack.records.foldl (fun u o => u.offer .overrideEnded o.page detail)
        (s.setStack { s.stack with records := [] }) := by
  rw [State.endOverrides, State.offerEnded_eq_foldl, List.filter_true]
  simp only [Bool.not_true, List.filter_false]

/-- A re-seat on a legal list seats the rotation right, whatever the rest of the state (R60, R62). -/
theorem State.reseat_seatOk {s : State} {l : Fin 4} (hlist : (s.rotation.lists[l]).Ok) : (s.reseat l).SeatOk := by
  unfold State.reseat
  dsimp only
  split
  · rename_i j hj
    obtain ⟨step, hstep, hpresent⟩ := State.firstStep_spec hj
    exact State.seatOk_of_step hlist rfl hstep hpresent
  · rename_i hnone
    have hseat : (s.setRotation { s.rotation with active := l, seat := none }).SeatOk :=
      State.seatOk_of_none rfl (State.firstStep_none hnone)
    split
    · exact hseat
    · exact hseat.congr (by simp) (State.present_congr (by simp))

/-- A recomputed selection leaves the rotation seated right (R89). -/
theorem State.SeatOk.recompute {s : State} (h : s.SeatOk) : s.recompute.SeatOk :=
  h.congr s.recompute_rotation (State.present_congr (congrArg PageStore.pages s.recompute_store))

/-! ## The restored state, block by block (R140) -/

/-- The state before the re-seat of a restore: the image installed, the drafts freed and the stack emptied (R140 steps 1 to 3). -/
def State.emptiedFor (s : State) (image : Collections) : State :=
  (((s.install image).abandonDraft 0).abandonDraft 1).endOverrides (fun _ => true) 5

theorem State.installRestored_eq (s : State) (image : Collections) :
    s.installRestored image = ((s.emptiedFor image).reseat image.startup.list).recompute := rfl

section
variable (s : State) (image : Collections)

/-- The steps before the re-seat, each with its reports in the order of R140. -/
theorem State.emptiedFor_eq :
    s.emptiedFor image =
      s.stack.records.foldl (fun u o => u.offer .overrideEnded o.page 5)
        ((s.store.drafts[1].reportFreed (s.store.drafts[0].reportFreed ((s.install image).setStore
          { (s.install image).store with
            drafts := #v[s.store.drafts[0].freed, s.store.drafts[1].freed] }))).setStack { s.stack with records := [] }) := by
  have hstack : (((s.install image).abandonDraft 0).abandonDraft 1).stack = s.stack := by
    rw [State.abandonDraft_stack, State.abandonDraft_stack]
    rfl
  rw [State.emptiedFor, State.endOverrides_all, hstack, State.abandonDrafts_eq]
  rfl

/-- The blocks of a state whose image is installed, drafts freed and stack emptied (R140 steps 1 to 3). -/
theorem State.emptiedFor_blocks :
    (s.emptiedFor image).frame = { s.frame with glass := image.glass } ∧
    (s.emptiedFor image).cells = { s.cells with table := image.cells } ∧
    (s.emptiedFor image).store =
      { s.store with
        pages := image.pages.map Page.unlatched, drafts := #v[s.store.drafts[0].freed, s.store.drafts[1].freed] } ∧
    (s.emptiedFor image).rotation = { s.rotation with lists := image.lists } ∧
    (s.emptiedFor image).schedule = { s.schedule with slots := image.slots } ∧
    (s.emptiedFor image).calendar = s.calendar ∧ (s.emptiedFor image).owed = s.owed ∧
    (s.emptiedFor image).stack.records = [] := by
  rw [State.emptiedFor_eq, Draft.reportFreed_eq, Draft.reportFreed_eq, ← State.offerEnded_eq_foldl]
  simp only [State.offerEnded_frame, State.offerEnded_cells, State.offerEnded_store, State.offerEnded_rotation,
    State.offerEnded_schedule, State.offerEnded_calendar, State.offerEnded_owed, State.offerEnded_stack]
  exact ⟨rfl, rfl, rfl, rfl, rfl, rfl, rfl, rfl⟩

/-- The re-seat and the recomputation that end a restore leave every block but the rotation, the stack and the reports (R140). -/
theorem State.installRestored_blocks :
    (s.installRestored image).frame = { s.frame with glass := image.glass } ∧
    (s.installRestored image).cells = { s.cells with table := image.cells } ∧
    (s.installRestored image).store =
      { s.store with
        pages := image.pages.map Page.unlatched, drafts := #v[s.store.drafts[0].freed, s.store.drafts[1].freed] } ∧
    (s.installRestored image).schedule = { s.schedule with slots := image.slots } ∧
    (s.installRestored image).calendar = s.calendar ∧ (s.installRestored image).owed = s.owed := by
  obtain ⟨hframe, hcells, hstore, -, hschedule, hcalendar, howed, -⟩ := s.emptiedFor_blocks image
  rw [State.installRestored_eq]
  simp only [State.recompute_frame, State.recompute_cells, State.recompute_store, State.recompute_schedule,
    State.recompute_calendar, State.recompute_owed, State.reseat_frame, State.reseat_cells, State.reseat_store,
    State.reseat_schedule, State.reseat_calendar, State.reseat_owed]
  exact ⟨hframe, hcells, hstore, hschedule, hcalendar, howed⟩

/-- The rotation of a restored image walks its lists, re-seated on its start list (R62, R140). -/
theorem State.installRestored_rotation :
    (s.installRestored image).rotation.lists = image.lists ∧
    (s.installRestored image).rotation.active = image.startup.list ∧
    (s.installRestored image).rotation.paused = s.rotation.paused := by
  obtain ⟨-, -, -, hrotation, -⟩ := s.emptiedFor_blocks image
  rw [State.installRestored_eq, State.recompute_rotation, State.reseat_lists, State.reseat_active, State.reseat_paused,
    hrotation]
  exact ⟨rfl, rfl, rfl⟩

/-- The stack of a restored image is empty, with the selection that the rotation gives (R84, R89, R140). -/
theorem State.installRestored_stack :
    (s.installRestored image).stack = ⟨[], selectionOf [] (s.installRestored image).rotation.currentPage⟩ := by
  obtain ⟨-, -, -, -, -, -, -, hrecords⟩ := s.emptiedFor_blocks image
  have hstack : ((s.emptiedFor image).reseat image.startup.list).stack.records = [] := by
    rw [State.reseat_stack, hrecords]
  have hselection := ((s.emptiedFor image).reseat image.startup.list).recompute_selection
  have hempty := ((s.emptiedFor image).reseat image.startup.list).recompute_records
  rw [hstack] at hselection hempty
  rw [State.installRestored_eq, State.recompute_rotation, ← hselection, ← hempty]

theorem State.emptiedFor_startList (h : image.Ok) : ((s.emptiedFor image).rotation.lists[image.startup.list]).Ok := by
  obtain ⟨-, -, -, hrotation, -⟩ := s.emptiedFor_blocks image
  obtain ⟨-, -, -, hlists, -⟩ := h
  rw [hrotation]
  exact hlists _ (by simp)

/-- The rotation of a restored image is seated right (R60, R62). The state is named, so that no step of the elaborator computes it. -/
theorem State.installRestored_seatOk {u : State} (hu : u = s.installRestored image) (h : image.Ok) : u.SeatOk := by
  have hlist := s.emptiedFor_startList image h
  rw [State.installRestored_eq] at hu
  generalize s.emptiedFor image = e at hu hlist
  rw [hu]
  exact (State.reseat_seatOk hlist).recompute

end

/-! ## The end of a restore (R140) -/

section
variable {s : State} {bank : BankId} {tag : Byte}

/-- A restore whose check passes installs the image on what the completed walk leaves (R140; log entry 9). -/
theorem exec_restoreComplete_passes {n : Nat} {image : Collections} {u : State} (hop : s.archive.op = .restore bank tag)
    (hcontent : s.archive.content bank = .marked n image true) (hrecord : s.archive.record bank = some n)
    (hu : u = s.finishWalk.installRestored image) :
    exec .restoreComplete s =
      .next ((u.setArchive { u.archive with dirty := false, op := .none }).reply (bankReply tag bank n)) := by
  have hnumber : n = (s.archive.record bank).getD n := by rw [hrecord]; rfl
  change execRestoreComplete s = _
  rw [execRestoreComplete, hop]
  dsimp only
  rw [hcontent]
  dsimp only
  rw [← hnumber, ← hu]

/-- A restore whose check fails answers FAILED (R140). -/
theorem exec_restoreComplete_fails (hop : s.archive.op = .restore bank tag)
    (h : ∀ (n : Nat) (image : Collections), s.archive.content bank ≠ .marked n image true) :
    exec .restoreComplete s = .next ((s.setArchive { s.archive with op := .none }).reply (refusal tag .failed)) := by
  change execRestoreComplete s = _
  rw [execRestoreComplete, hop]
  dsimp only
  split
  · exact absurd ‹_› (h _ _)
  · rfl

end

/-- Settles O56: the steps of R140 in their order (`State.installRestored`), each with its reports, and then block by block. -/
theorem restoreInstallsTheImage : Obligations.RestoreInstallsTheImage := by
  unfold Obligations.RestoreInstallsTheImage
  intro s bank tag hop
  refine ⟨?_, exec_restoreComplete_fails hop⟩
  intro n image hcontent hrecord himage w freed ended installed emptied seated
  have hfreed (x : Draft) : freed x = x.freed := by cases x <;> rfl
  have hended (u : State) (x : Draft) : ended u x = x.reportFreed u := by cases x <;> rfl
  have hinstalled : installed = (w.install image).setStore
      { (w.install image).store with drafts := #v[w.store.drafts[0].freed, w.store.drafts[1].freed] } := by
    simp only [installed, hfreed]
    rfl
  have hemptied : emptied = w.emptiedFor image := by
    simp only [emptied, hended, hinstalled]
    exact (w.emptiedFor_eq image).symm
  have hseated : seated = w.installRestored image := by
    rw [State.installRestored_eq, ← hemptied]
  clear_value seated
  obtain ⟨hframe, hcells, hstore, hschedule, hcalendar, howed⟩ := w.installRestored_blocks image
  obtain ⟨hlists, hactive, hpaused⟩ := w.installRestored_rotation image
  obtain ⟨hphase, hlink, -, harchive⟩ := w.installRestored_leaves image
  have hstack := w.installRestored_stack image
  rw [← hseated] at hframe hcells hstore hschedule hcalendar howed hlists hactive hpaused hphase hlink harchive hstack
  rw [s.finishWalk_store] at hstore
  have hcommits : seated.store.commits = s.store.commits := by rw [hstore]
  have hseat : seated.SeatOk := w.installRestored_seatOk image hseated himage
  have hexec := exec_restoreComplete_passes hop hcontent hrecord hseated
  refine ⟨hexec, _, hexec, hframe, hcells.trans ?_, congrArg PageStore.pages hstore, hcommits,
    fun d => ?_, hlists, hactive, hpaused, hseat, hstack, hschedule, ?_, ?_, hcalendar.trans s.finishWalk_calendar,
    howed.trans s.finishWalk_owed, hphase.trans s.finishWalk_phase⟩
  · rw [s.finishWalk_cells]
  · change seated.store.drafts[d] = _
    rw [hstore, hfreed]
    match d with
    | 0 => rfl
    | 1 => rfl
  · change { seated.archive with dirty := false, op := .none } = _
    rw [harchive]
  · rw [State.reply_link, State.reply_link, State.setArchive_link, hlink, s.finishWalk_link]
    rfl

end Sys2Proof.Machine
end

section
/-! PROOFS. The rotation: re-seating, its requests, and its part of a second tick (R62 to R69). -/
namespace Sys2Proof.Machine
open Sys2Proof

/-! ## Re-seating (R62) -/

/-- The first step that names a present page is the one with no such step before it (R62). -/
theorem State.firstStep_eq {s : State} {before after : List Step} {step : Step}
    (hbefore : ∀ x ∈ before, s.present x.page = false) (hstep : s.present step.page = true) :
    s.firstStep (before ++ step :: after) = some before.length := by
  rw [State.firstStep, List.find?_eq_some_iff_getElem]
  refine ⟨by simpa using hstep, before.length, by simp, by simp, fun j hj => ?_⟩
  simp [List.getElem?_append_left hj, List.getElem?_eq_getElem hj, hbefore _ (List.getElem_mem hj)]

theorem State.firstStep_eq_none {s : State} {steps : List Step} (h : ∀ step ∈ steps, s.present step.page = false) :
    s.firstStep steps = none := by
  cases hfirst : s.firstStep steps with
  | none => rfl
  | some j =>
    obtain ⟨step, hstep, hpresent⟩ := State.firstStep_spec hfirst
    rw [h step (List.mem_of_getElem? hstep)] at hpresent
    cases hpresent

section
variable {s : State} {l : Fin 4}

theorem State.reseat_onStep {before after : List Step} {step : Step} (hsteps : s.rotation.lists[l].steps = before ++ step :: after)
    (hbefore : ∀ x ∈ before, s.present x.page = false) (hstep : s.present step.page = true) :
    s.reseat l = s.setRotation { s.rotation with active := l, seat := some ⟨before.length, step.dwell⟩ } := by
  have hat : (before ++ step :: after)[before.length]? = some step := by simp
  simp only [State.reseat, hsteps, State.firstStep_eq hbefore hstep, seatOn_eq hat]

theorem State.reseat_empty (h : s.rotation.lists[l].steps = []) :
    s.reseat l = s.setRotation { s.rotation with active := l, seat := none } := by
  simp only [State.reseat, h, State.firstStep_eq_none (List.forall_mem_nil _), List.isEmpty_nil, if_true]

theorem State.reseat_starved (h : s.rotation.lists[l].steps ≠ [])
    (hnone : ∀ step ∈ s.rotation.lists[l].steps, s.present step.page = false) :
    s.reseat l = (s.setRotation { s.rotation with active := l, seat := none }).offer .listStarved l.val 0 := by
  simp only [State.reseat, State.firstStep_eq_none hnone, List.isEmpty_iff, if_neg h]

end

/-- Settles O41: the search of R62 by where it ends (`State.firstStep_eq`, `State.firstStep_eq_none`). -/
theorem reseatFindsTheFirstPresentStep : Obligations.ReseatFindsTheFirstPresentStep := by
  unfold Obligations.ReseatFindsTheFirstPresentStep
  intro s l steps isPresent seated
  have habsent {id : Nat} (h : ¬isPresent id) : s.present id = false := State.present_eq_false.mpr (not_not.mp h)
  have hpresent {id : Nat} (h : isPresent id) : s.present id = true := by simpa using mt State.present_eq_false.mp h
  exact ⟨State.reseat_empty, fun before step after hsteps hbefore hstep =>
      State.reseat_onStep hsteps (fun x hx => habsent (hbefore x hx)) (hpresent hstep),
    fun hne hnone => State.reseat_starved hne fun x hx => habsent (hnone x hx)⟩

/-! ## The second tick at the rotation (R66, R67) -/

section
variable {s : State} {seat : Seat}

/-- A rotation that is not RUNNING does not count (R66). -/
theorem State.countDwell_idle (h : s.rotation.seat = none ∨ s.rotation.paused = true) : s.countDwell = s := by
  unfold State.countDwell
  split
  · rename_i hseat hpaused
    simp [hseat, hpaused] at h
  · rfl

/-- A RUNNING rotation takes 1 from a dwell that does not end (R66). -/
theorem State.countDwell_counts (hpaused : s.rotation.paused = false) (hseat : s.rotation.seat = some seat)
    (h : 1 < seat.remaining) :
    s.countDwell = s.setRotation { s.rotation with seat := some ⟨seat.cursor, seat.remaining - 1⟩ } := by
  simp only [State.countDwell, hseat, hpaused, if_pos h]

/-- A RUNNING rotation advances at the end of the dwell (R66). -/
theorem State.countDwell_ends (hpaused : s.rotation.paused = false) (hseat : s.rotation.seat = some seat)
    (h : seat.remaining ≤ 1) : s.countDwell = s.advance seat.cursor := by
  simp only [State.countDwell, hseat, hpaused, if_neg (Nat.not_lt.mpr h)]

/-- The move of an advance to the step found, with the report of a wrap (R67). -/
theorem State.advance_eq {k j : Nat} {step : Step} (hnext : s.nextStep s.rotation.activeList.steps k = some j)
    (hstep : s.rotation.activeList.steps[j]? = some step) :
    s.advance k =
      (if j ≤ k ∧ s.rotation.activeList.wrapFlag = true then
        (s.setRotation { s.rotation with seat := some ⟨j, step.dwell⟩ }).offer .listWrapped s.rotation.active.val 0
      else s.setRotation { s.rotation with seat := some ⟨j, step.dwell⟩ }).recompute := by
  simp only [State.advance, hnext, seatOn_eq hstep]

/-- An owed second tick that the rotation has taken (R94). -/
def State.tickTaken (s : State) : State := s.setOwed { s.owed with rotation := s.owed.rotation - 1 }

theorem exec_dwellCount_owed (h : 0 < s.owed.rotation) : exec .dwellCount s = .next s.tickTaken.countDwell :=
  if_neg (Nat.ne_of_gt h)

theorem exec_dwellCount_none (h : s.owed.rotation = 0) : exec .dwellCount s = .next s := if_pos h

/-- The advance command acts on a tick that ends the dwell of a RUNNING rotation (log entry 5). -/
theorem exec_rotationAdvance_ends (howed : 0 < s.owed.rotation) (hpaused : s.rotation.paused = false)
    (hseat : s.rotation.seat = some seat) (h : seat.remaining ≤ 1) :
    exec .rotationAdvance s = .next s.tickTaken.countDwell := by
  change execRotationAdvance s = _
  simp only [execRotationAdvance, hseat]
  exact if_pos ⟨howed, hpaused, h⟩

/-- The advance command changes nothing on any other tick (log entry 5). -/
theorem exec_rotationAdvance_idle
    (h : ∀ seat, s.rotation.seat = some seat → ¬(0 < s.owed.rotation ∧ s.rotation.paused = false ∧ seat.remaining ≤ 1)) :
    exec .rotationAdvance s = .next s := by
  change execRotationAdvance s = _
  unfold execRotationAdvance
  split
  · exact if_neg (h _ ‹_›)
  · rfl

end

/-- Settles O43: both commands come to `State.countDwell`, which goes by the rotation's state and, at the end of the dwell, by the
cyclic search of R67 (`State.nextStep_eq`). -/
theorem dwellCountsAndAdvances : Obligations.DwellCountsAndAdvances := by
  unfold Obligations.DwellCountsAndAdvances
  intro s taken r steps
  refine ⟨fun hnone => ⟨exec_dwellCount_none hnone, exec_rotationAdvance_idle fun _ _ hends => ?_⟩,
    fun howed hidle => ⟨?_, exec_rotationAdvance_idle fun seat hseat ⟨_, hpaused, _⟩ => ?_⟩,
    fun seat howed hpaused hseat hlong => ⟨?_, exec_rotationAdvance_idle fun seat' hseat' ⟨_, _, hends⟩ => ?_⟩,
    fun seat d step howed hpaused hseat hends hcursor hd hlast hstep hpresent hbefore => ?_⟩
  · exact absurd hnone (Nat.ne_of_gt hends.1)
  · rw [exec_dwellCount_owed howed, State.countDwell_idle (s := s.tickTaken) hidle]
    rfl
  · have hseat : r.seat = some seat := hseat
    have hpaused : r.paused = false := hpaused
    simp [hseat, hpaused] at hidle
  · rw [exec_dwellCount_owed howed, State.countDwell_counts (s := s.tickTaken) hpaused hseat hlong]
    rfl
  · obtain rfl := Option.some.inj (hseat.symm.trans hseat')
    omega
  · intro j moved wrapped
    have hnext : s.tickTaken.nextStep steps seat.cursor = some j :=
      State.nextStep_eq hcursor hd hlast hstep (Bool.not_eq_false _ ▸ mt State.present_eq_false.mp hpresent)
        fun e x h1 h2 hx => State.present_eq_false.mpr (hbefore e x h1 h2 hx)
    have hcount : s.tickTaken.countDwell = wrapped.recompute :=
      (State.countDwell_ends (s := s.tickTaken) hpaused hseat hends).trans (State.advance_eq (s := s.tickTaken) hnext hstep)
    rw [exec_dwellCount_owed howed, exec_rotationAdvance_ends howed hpaused hseat hends, hcount]
    exact ⟨rfl, rfl⟩

/-! ## The payload of SET_LIST (R59, R63) -/

/-- A step in range: a page id and a dwell of at least 1 (R59). -/
def StepInRange (p : Byte × Byte) : Prop := p.1 ≠ 0 ∧ p.1 ≠ 255 ∧ p.2 ≠ 0

theorem readStep_inRange {p : Byte × Byte} (h : StepInRange p) : readStep p = some ⟨p.1.toNat, p.2.toNat⟩ := by
  obtain ⟨h0, h255, hdwell⟩ := h
  rw [readStep, readPageId_eq h0 h255]
  exact if_neg hdwell

theorem readStep_outOfRange {p : Byte × Byte} (h : ¬StepInRange p) : readStep p = none := by
  rw [readStep]
  by_cases hid : p.1 ≠ 0 ∧ p.1 ≠ 255
  · rw [readPageId_eq hid.1 hid.2]
    exact if_pos (not_not.mp fun hdwell => h ⟨hid.1, hid.2, hdwell⟩)
  · rw [readPageId_none hid]

/-- Steps in range are read one by one (R63). -/
theorem mapM_readStep_inRange {pairs : List (Byte × Byte)} (h : ∀ p ∈ pairs, StepInRange p) :
    pairs.mapM readStep = some (pairs.map fun p => ⟨p.1.toNat, p.2.toNat⟩) := by
  induction pairs with
  | nil => rfl
  | cons p rest ih =>
    rw [List.mapM_cons, readStep_inRange (h p List.mem_cons_self), ih fun q hq => h q (List.mem_cons_of_mem _ hq)]
    rfl

/-- One step out of range, and the list is not read (R63). -/
theorem mapM_readStep_outOfRange {pairs : List (Byte × Byte)} (h : ¬∀ p ∈ pairs, StepInRange p) :
    pairs.mapM readStep = none := by
  induction pairs with
  | nil => exact absurd (List.forall_mem_nil _) h
  | cons p rest ih =>
    rw [List.mapM_cons]
    by_cases hp : StepInRange p
    · have hrest : ¬∀ q ∈ rest, StepInRange q := fun hall => h (List.forall_mem_cons.mpr ⟨hp, hall⟩)
      rw [readStep_inRange hp, ih hrest]
      rfl
    · rw [readStep_outOfRange hp]
      rfl

/-! ## The requests (R63 to R65, R69) -/

/-- A rotation list is written (R63). -/
def State.writeList (s : State) (l : Fin 4) (x : RotationList) : State :=
  (s.setRotation { s.rotation with lists := s.rotation.lists.set l x }).markDirty

/-- What SET_LIST makes of a list in range (R63 order 3). -/
def State.takeList (s : State) (l : Fin 4) (x : RotationList) : Taken :=
  if s.archiveBusy then .no .archiveBusy
  else .ok [] (if s.rotation.active = l then (s.writeList l x).reseatAndOffer l else s.writeList l x)

section
variable {s : State} {l : Fin 4} {x : RotationList}

theorem State.takeList_busy (h : s.archive.op ≠ .none) : s.takeList l x = .no .archiveBusy :=
  if_pos (State.archiveBusy_iff.mpr h)

theorem State.takeList_active (h : s.archive.op = .none) (hl : s.rotation.active = l) :
    s.takeList l x = .ok [] ((s.writeList l x).reseatAndOffer l) := by
  rw [State.takeList, if_neg fun hbusy => State.archiveBusy_iff.mp hbusy h, if_pos hl]

theorem State.takeList_other (h : s.archive.op = .none) (hl : s.rotation.active ≠ l) :
    s.takeList l x = .ok [] (s.writeList l x) := by
  rw [State.takeList, if_neg fun hbusy => State.archiveBusy_iff.mp hbusy h, if_neg hl]

end

/-- A reply produced after a re-seat may as well be produced before (R162). -/
theorem State.reseatAndOffer_reply (s : State) (l : Fin 4) (r : Reply) :
    (s.reseatAndOffer l).reply r = (s.reply r).reseatAndOffer l := by
  simp only [State.reply, State.reseatAndOffer_setLink, State.reseatAndOffer_link]

section
variable {s : State} {tag list wrap : Byte} {steps : List (Byte × Byte)}
  (hr : s.link.handed = some ⟨tag, 0x40, list :: wrap :: pairBytes steps⟩)
include hr

/-- SET_LIST with its payload in range (R63). -/
theorem exec_setList {l : Fin 4} (hl : list.toNat = l.val) (hwrap : wrap.toNat ≤ 1) (hsteps : ∀ p ∈ steps, StepInRange p) :
    exec (.setList tag list wrap steps) s =
      .next (s.unhand.conclude tag (s.unhand.takeList l ⟨steps.map fun p => ⟨p.1.toNat, p.2.toNat⟩, decide (wrap = 1)⟩)) := by
  refine congrArg _ ((takeRequest_handed hr).trans (congrArg (s.unhand.conclude tag) ?_))
  simp only [readIndex_eq hl, readFlag_eq hwrap, mapM_readStep_inRange hsteps]
  rfl

/-- SET_LIST with its payload out of range (R63 orders 1 and 2). -/
theorem exec_setList_badField (h : 3 < list.toNat ∨ ¬(wrap.toNat ≤ 1 ∧ ∀ p ∈ steps, StepInRange p)) :
    exec (.setList tag list wrap steps) s = .next (s.answered (refusal tag .badField)) := by
  refine congrArg _ (takeRequest_refused hr ?_)
  by_cases hwrap : wrap.toNat ≤ 1
  · by_cases hsteps : ∀ p ∈ steps, StepInRange p
    · have hlist : 4 ≤ list.toNat := h.resolve_right fun hbad => hbad ⟨hwrap, hsteps⟩
      simp only [readIndex_none hlist, Taken.no]
    · simp only [mapM_readStep_outOfRange hsteps]
      cases readIndex 4 list with
      | none => rfl
      | some l => cases readFlag wrap <;> rfl
  · simp only [readFlag_none hwrap]
    cases readIndex 4 list <;> rfl

end

/-- Settles O42: each request reads its payload; SET_LIST then goes by the archive and the active list (`State.takeList`), and the
reply is produced before or after the re-seat alike. -/
theorem rotationRequests : Obligations.RotationRequests := by
  unfold Obligations.RotationRequests
  refine ⟨⟨?setList, ?selectList⟩, ?pause, ?resume, ?getList⟩
  case setList =>
    rintro tag list wrap steps s ⟨_, ⟨⟩, hr⟩ c good
    refine ⟨exec_setList_badField hr, fun hlist hgood hop => ?_, fun l hl hgood hop => ⟨fun hother => ?_, fun hactive => ?_⟩⟩
    · rw [exec_setList (l := ⟨list.toNat, Nat.lt_succ_of_le hlist⟩) hr rfl hgood.1 hgood.2, State.takeList_busy (s := s.unhand) hop]
      rfl
    · rw [exec_setList hr hl hgood.1 hgood.2, State.takeList_other (s := s.unhand) hop hother]
      rfl
    · rw [exec_setList hr hl hgood.1 hgood.2, State.takeList_active (s := s.unhand) hop hactive, State.conclude,
        State.reseatAndOffer_reply]
      rfl
  case selectList =>
    rintro tag list s ⟨_, ⟨⟩, hr⟩
    refine ⟨fun hbad => congrArg _ (takeRequest_refused hr (by simp only [readIndex_none hbad, Taken.no])), fun l hl => ?_⟩
    intro t
    have hseat : (s.unhand.reseatAndOffer l).rotation = t.rotation := by
      rw [State.unhand, State.reseatAndOffer_setLink]
      rfl
    refine congrArg _ ((takeRequest_ok (t := s.unhand.reseatAndOffer l) (payload := seatBytes t.rotation) hr ?_).trans
      (State.reseatAndOffer_reply ..))
    simp only [readIndex_eq hl, hseat]
  case pause =>
    rintro tag s ⟨_, ⟨⟩, hr⟩
    exact congrArg Host.Outcome.next
      (takeRequest_ok (t := s.unhand.setRotation { s.rotation with paused := true }) (payload := []) hr rfl)
  case resume =>
    rintro tag s ⟨_, ⟨⟩, hr⟩
    exact congrArg Host.Outcome.next
      (takeRequest_ok (t := s.unhand.setRotation { s.rotation with paused := false }) (payload := []) hr rfl)
  case getList =>
    rintro tag list s ⟨_, ⟨⟩, hr⟩
    refine ⟨fun hbad => congrArg _ (takeRequest_refused hr (by simp only [readIndex_none hbad, Taken.no])), fun l hl => ?_⟩
    intro x
    refine congrArg _ (takeRequest_ok (t := s.unhand) (payload := listBytes x) hr ?_)
    simp only [readIndex_eq hl]
    rfl

end Sys2Proof.Machine
end

section
/-! PROOFS. The end of start-up: the image it installs, and the rotation re-seated on the start list (R73, R142, R172). -/
namespace Sys2Proof.Machine
open Sys2Proof

/-! ## The image a start-up restore installs (R142) -/

/-- The collections that stand after a start-up restore: the current bank's, or the factory defaults (R142). -/
def State.startCollections (s : State) : Collections := s.archive.checkBanks.startImage.getD Collections.factory

/-- The archive after a start-up restore (R133, R142). -/
def State.startArchive (s : State) : Archive :=
  { s.archive.checkBanks with startup := s.startCollections.startup, dirty := s.archive.checkBanks.startImage.isNone }

theorem State.startupRestore_eq (s : State) :
    s.startupRestore = (s.install s.startCollections).setArchive s.startArchive := by
  unfold State.startupRestore State.startArchive State.startCollections
  dsimp only [State.setArchive_archive]
  cases s.archive.checkBanks.startImage <;> rfl

section
variable {a : Archive} {m n : Nat} {image : Collections}

theorem Archive.startImage_ofA (hA : a.bankA = .marked m image true)
    (hB : a.bankB.checked = none ∨ ∃ n, a.bankB.checked = some n ∧ n < m) : a.checkBanks.startImage = some image := by
  have hrecord : a.checkBanks.recordA = some m := congrArg BankContent.checked hA
  have hcurrent : a.checkBanks.current = some (.a, m) := by
    obtain hnone | ⟨n, hn, hless⟩ := hB
    · exact Archive.current_onlyA hrecord hnone
    · exact Archive.current_newerA hrecord hn hless
  rw [Archive.startImage, hcurrent]
  exact congrArg BankContent.image hA

theorem Archive.startImage_ofB (hB : a.bankB = .marked n image true)
    (hA : a.bankA.checked = none ∨ ∃ m, a.bankA.checked = some m ∧ m < n) : a.checkBanks.startImage = some image := by
  have hrecord : a.checkBanks.recordB = some n := congrArg BankContent.checked hB
  have hcurrent : a.checkBanks.current = some (.b, n) := by
    obtain hnone | ⟨m, hm, hless⟩ := hA
    · exact Archive.current_onlyB hnone hrecord
    · exact Archive.current_newerB hm hrecord hless
  rw [Archive.startImage, hcurrent]
  exact congrArg BankContent.image hB

theorem Archive.startImage_none (hA : a.bankA.checked = none) (hB : a.bankB.checked = none) : a.checkBanks.startImage = none := by
  rw [Archive.startImage, Archive.current_unrecorded (a := a.checkBanks) hA hB]

end

section
variable {s : State}

/-- The current bank's image is installed, and the dirty flag is cleared (R142 step 2). -/
theorem State.startArchive_image {image : Collections} (h : s.archive.checkBanks.startImage = some image) :
    s.startCollections = image ∧ s.startArchive.dirty = false := by
  simp [State.startCollections, State.startArchive, h]

/-- The factory defaults are installed, and the dirty flag is set (R142 step 3). -/
theorem State.startArchive_factory (h : s.archive.checkBanks.startImage = none) :
    s.startCollections = Collections.factory ∧ s.startArchive.dirty = true := by
  simp [State.startCollections, State.startArchive, h]

end

/-! ## The part at the end of its start (R73, R142, R172) -/

/-- The part before the re-seat that ends a start: restored, with the live settings and the reports of the start (R142, R154, R155). -/
def State.startEnded (s : State) (cause : Cause) : State :=
  (s.startupRestore.applyStartup.queueStarted cause s.startupRestore.applyStartup.archive.startOutcome).setPhase .listening

/-- The blocks of a part at the end of its start, but for the report queue. -/
theorem State.startEnded_blocks (s : State) (cause : Cause) :
    (s.startEnded cause).phase = .listening ∧
    (s.startEnded cause).frame = { s.frame with
      glass := s.startCollections.glass
      display := ⟨s.startCollections.startup.mode, false, s.startCollections.startup.contrast, 0xFF⟩ } ∧
    (s.startEnded cause).cells = { s.cells with table := s.startCollections.cells } ∧
    (s.startEnded cause).store = { s.store with pages := s.startCollections.pages.map Page.unlatched } ∧
    (s.startEnded cause).rotation = { s.rotation with lists := s.startCollections.lists } ∧
    (s.startEnded cause).stack = s.stack ∧
    (s.startEnded cause).schedule = { s.schedule with slots := s.startCollections.slots } ∧
    (s.startEnded cause).archive = s.startArchive ∧
    (s.startEnded cause).calendar = s.calendar ∧
    (s.startEnded cause).link = s.link := by
  unfold State.startEnded
  rw [State.startupRestore_eq]
  exact ⟨rfl, rfl, rfl, rfl, rfl, rfl, rfl, rfl, rfl, rfl⟩

theorem exec_startupComplete {s : State} {cause : Cause} (h : s.phase = .starting cause) :
    exec .startupComplete s = .next ((s.startEnded cause).reseatAndOffer s.startCollections.startup.list) := by
  obtain ⟨-, -, -, -, -, -, -, harchive, -⟩ := s.startEnded_blocks cause
  have hlist : (s.startEnded cause).archive.startup.list = s.startCollections.startup.list := by rw [harchive]; rfl
  rw [← hlist]
  change execStartupComplete s = _
  simp only [execStartupComplete, h]
  rfl

/-- The pages present at the end of a start are those of the image (R142). -/
theorem State.startEnded_present {s : State} {cause : Cause} {id : Nat} :
    (s.startEnded cause).present id = true ↔ ∃ p ∈ s.startCollections.pages, p.id = id := by
  obtain ⟨-, -, -, hstore, -⟩ := s.startEnded_blocks cause
  simp [State.present, hstore, Page.unlatched]

theorem State.startEnded_absent {s : State} {cause : Cause} {id : Nat} :
    (s.startEnded cause).present id = false ↔ ∀ p ∈ s.startCollections.pages, p.id ≠ id := by
  rw [← Bool.not_eq_true, State.startEnded_present]
  exact ⟨fun h p hp he => h ⟨p, hp, he⟩, fun h ⟨p, hp, he⟩ => h p hp he⟩

/-! ## The reports of a start (R147, R154, R155) -/

/-- The reports held aside leave the mask and the ATTN enable (R155). -/
theorem ReportQueue.settleAside_enables (q : ReportQueue) (stamp : Option Stamp) (rs : List Report) :
    (q.settleAside stamp rs).mask = q.mask ∧ (q.settleAside stamp rs).attnEnable = q.attnEnable := by
  induction rs generalizing q with
  | nil => exact ⟨rfl, rfl⟩
  | cons r rest ih =>
    obtain ⟨hmask, hattn⟩ := ih (q.settle stamp r.kind r.subject r.detail r.count)
    exact ⟨hmask.trans (ReportQueue.settle_mask ..), hattn.trans (ReportQueue.settle_attnEnable ..)⟩

/-- STARTED joins an empty queue whatever the mask (R147 row 1, R154). -/
theorem ReportQueue.settle_started_eq {q : ReportQueue} (h : q.records = []) (stamp : Option Stamp) (subject detail : Nat) :
    q.settle stamp .started subject detail 1 =
      { q with records := [⟨.started, subject, detail, 1, stamp⟩], attnLow := q.attnEnable } := by
  simp [ReportQueue.settle, kindEnabled, h, Config.maxReports, ReportQueue.examineAttn]

/-- The record of STARTED: the cause of the start, and the outcome of its restore (R142, R154). -/
def State.startedReport (s : State) (cause : Cause) : Report :=
  ⟨.started, cause.code, s.archive.checkBanks.startOutcome.code, 1, s.calendar.stamp⟩

/-- The queue with STARTED as its only record, under the mask and the ATTN enable of the startup record (R151, R152, R154). -/
def State.startQueue (s : State) (cause : Cause) : ReportQueue :=
  { records := [s.startedReport cause]
    lost := false
    mask := s.startCollections.startup.mask
    attnEnable := s.startCollections.startup.attn
    attnLow := s.startCollections.startup.attn
    aside := [] }

/-- STARTED settles first, whatever the mask, and the reports held aside follow it (R147, R154, R155). -/
theorem State.startEnded_reports (s : State) (cause : Cause) :
    (s.startEnded cause).reports = (s.startQueue cause).settleAside s.calendar.stamp s.reports.aside := by
  have hstarted := ReportQueue.settle_started_eq
    (q := ⟨[], false, s.startCollections.startup.mask, s.startCollections.startup.attn, s.reports.attnLow, []⟩) rfl
    s.calendar.stamp cause.code s.archive.checkBanks.startOutcome.code
  rw [State.startEnded, State.startupRestore_eq, State.startQueue]
  exact congrArg (fun q => q.settleAside s.calendar.stamp s.reports.aside) hstarted

/-- The mask and the ATTN enable are the startup record's (R151, R152). -/
theorem State.startEnded_enables (s : State) (cause : Cause) :
    (s.startEnded cause).reports.mask = s.startCollections.startup.mask ∧
      (s.startEnded cause).reports.attnEnable = s.startCollections.startup.attn := by
  rw [State.startEnded_reports]
  exact ReportQueue.settleAside_enables ..

/-! ## The re-seat of a start (R62, R88) -/

section
variable (s : State)

/-- An offered report leaves the mask and the ATTN enable (R147, R155). -/
theorem State.offer_enables (k : Kind) (subject detail : Nat) :
    (s.offer k subject detail).reports.mask = s.reports.mask ∧
      (s.offer k subject detail).reports.attnEnable = s.reports.attnEnable := by
  cases hl : s.listening with
  | true =>
    rw [State.offer_listening s hl]
    exact ⟨ReportQueue.settle_mask .., ReportQueue.settle_attnEnable ..⟩
  | false =>
    rw [State.offer_starting s hl, ReportQueue.holdAside]
    split <;> exact ⟨rfl, rfl⟩

/-- A re-seat leaves the mask and the ATTN enable (R62). -/
theorem State.reseat_enables (l : Fin 4) :
    (s.reseat l).reports.mask = s.reports.mask ∧ (s.reseat l).reports.attnEnable = s.reports.attnEnable := by
  unfold State.reseat
  dsimp only
  split
  · exact ⟨rfl, rfl⟩
  · split
    · exact ⟨rfl, rfl⟩
    · exact State.offer_enables ..

/-- A recomputation leaves the mask and the ATTN enable (R89). -/
theorem State.recompute_enables :
    s.recompute.reports.mask = s.reports.mask ∧ s.recompute.reports.attnEnable = s.reports.attnEnable := by
  rcases s.recompute_cases with ⟨-, h⟩ | ⟨-, h⟩ <;> rw [h]
  · exact ⟨rfl, rfl⟩
  · exact State.offer_enables ..

/-- See `State.reseat_enables`. -/
theorem State.reseatAndOffer_enables (l : Fin 4) :
    (s.reseatAndOffer l).reports.mask = s.reports.mask ∧ (s.reseatAndOffer l).reports.attnEnable = s.reports.attnEnable := by
  obtain ⟨hmask, hattn⟩ := s.reseat_enables l
  obtain ⟨hmask', hattn'⟩ := (s.reseat l).recompute_enables
  exact ⟨hmask'.trans hmask, hattn'.trans hattn⟩

@[simp] theorem State.reseatAndOffer_rotation (l : Fin 4) : (s.reseatAndOffer l).rotation = (s.reseat l).rotation :=
  State.recompute_rotation _

@[simp] theorem State.reseatAndOffer_records (l : Fin 4) : (s.reseatAndOffer l).stack.records = s.stack.records := by
  rw [State.reseatAndOffer, State.recompute_records, State.reseat_stack]

theorem State.reseatAndOffer_selection (l : Fin 4) :
    (s.reseatAndOffer l).stack.selection = selectionOf s.stack.records (s.reseat l).rotation.currentPage := by
  rw [State.reseatAndOffer, State.recompute_selection, State.reseat_stack]

end

section
variable {s : State} {l : Fin 4}

/-- A re-seat that finds a present page is on that page (R61, R62). -/
theorem State.reseat_finds {before after : List Step} {step : Step} (hsteps : s.rotation.lists[l].steps = before ++ step :: after)
    (hbefore : ∀ x ∈ before, s.present x.page = false) (hstep : s.present step.page = true) :
    (s.reseat l).rotation.seat = some ⟨before.length, step.dwell⟩ ∧ (s.reseat l).rotation.currentPage = some step.page := by
  rw [State.reseat_onStep hsteps hbefore hstep, State.setRotation_rotation]
  refine ⟨rfl, ?_⟩
  simp only [Rotation.currentPage, Rotation.activeList, hsteps, List.getElem?_append_right le_rfl,
    Nat.sub_self, List.getElem?_cons_zero, Option.map_some]

/-- A re-seat that finds no present page leaves no seat, and the rotation offers no page (R61, R62). -/
theorem State.reseat_findsNone (h : ∀ step ∈ s.rotation.lists[l].steps, s.present step.page = false) :
    (s.reseat l).rotation.seat = none ∧ (s.reseat l).rotation.currentPage = none := by
  have hseat : (s.reseat l).rotation.seat = none := by rw [State.reseat_seat, State.firstStep_eq_none h]; rfl
  exact ⟨hseat, by rw [Rotation.currentPage, hseat]⟩

end

/-- Settles O59: the image by the current bank (`State.startArchive_image`, `State.startArchive_factory`), the blocks it is installed
over (`State.startEnded_blocks`), and the re-seat on its start list. -/
theorem startupInstallsTheCurrentBank : Obligations.StartupInstallsTheCurrentBank := by
  unfold Obligations.StartupInstallsTheCurrentBank
  intro s cause hphase valid a b
  have hvalid (x : BankContent) : valid x = x.checked := by
    rcases x with _ | ⟨n, image, _ | _⟩ <;> rfl
  have ha : a = s.archive.bankA.checked := hvalid _
  have hb : b = s.archive.bankB.checked := hvalid _
  clear_value a b
  subst ha hb
  obtain ⟨hphase', hframe, hcells, hstore, hrotation, hstack, hschedule, harchive, hcalendar, hlink⟩ := s.startEnded_blocks cause
  obtain ⟨hmask, hattn⟩ := s.startEnded_enables cause
  obtain ⟨hmask', hattn'⟩ := (s.startEnded cause).reseatAndOffer_enables s.startCollections.startup.list
  have hlists : (s.startEnded cause).rotation.lists[s.startCollections.startup.list]
      = s.startCollections.lists[s.startCollections.startup.list] := by rw [hrotation]
  have hselection := (s.startEnded cause).reseatAndOffer_selection s.startCollections.startup.list
  rw [hstack] at hselection
  refine ⟨_, s.startCollections, exec_startupComplete hphase, ?_⟩
  simp only [State.reseatAndOffer_phase, hphase', State.reseatAndOffer_archive, harchive, State.reseatAndOffer_frame, hframe,
    State.reseatAndOffer_cells, hcells, State.reseatAndOffer_store, hstore, State.reseatAndOffer_schedule, hschedule,
    State.reseatAndOffer_calendar, hcalendar, State.reseatAndOffer_link, hlink, hmask', hmask, hattn', hattn,
    State.reseatAndOffer_rotation, State.reseat_lists, State.reseat_active, State.reseat_paused, hrotation,
    State.reseatAndOffer_records, hstack, hselection, true_and, and_true]
  refine ⟨rfl, rfl, rfl, rfl, fun m i hA hB => State.startArchive_image (Archive.startImage_ofA hA hB),
    fun n i hB hA => State.startArchive_image (Archive.startImage_ofB hB hA),
    fun hA hB => State.startArchive_factory (Archive.startImage_none hA hB), rfl,
    fun before step after hsteps hbefore hstep => ?_, fun hnone => ?_, fun hstart => ?_⟩
  · obtain ⟨hseat, hpage⟩ := State.reseat_finds (hlists ▸ hsteps) (fun x hx => State.startEnded_absent.mpr (hbefore x hx))
      (State.startEnded_present.mpr hstep)
    exact ⟨hseat, fun hempty => by rw [hempty, hpage]; rfl⟩
  · obtain ⟨hseat, hpage⟩ := State.reseat_findsNone (s := s.startEnded cause) (l := s.startCollections.startup.list)
      fun step hstep => State.startEnded_absent.mpr (hnone step (hlists ▸ hstep))
    exact ⟨hseat, fun hempty => by rw [hempty, hpage]; rfl⟩
  · obtain ⟨⟨-, -, hpaused, hrecords, -⟩, -⟩ := hstart (by simp [hphase])
    exact ⟨hpaused, by rw [hrecords]⟩

end Sys2Proof.Machine
end

section
/-! PROOFS. The reports of a start: STARTED, the reports held aside, and the re-seat's own (R90, R142, R154, R155). -/
namespace Sys2Proof.Machine
open Sys2Proof

/-! ## Reports of different kinds and subjects, settled one after another (R147, R155) -/

/-- Two reports that do not coalesce: their kinds or their subjects differ (R146). -/
def Report.Apart (r q : Report) : Prop := ¬(r.kind = q.kind ∧ r.subject = q.subject)

/-- The record of a report held aside, once it is settled (R155). -/
def Report.stamped (stamp : Option Stamp) (r : Report) : Report := { r with stamp := stamp }

section
variable {q : ReportQueue} {stamp : Option Stamp} {r : Report} {rest : List Report}

theorem ReportQueue.any_about_of_apart (h : (q.records ++ r :: rest).Pairwise Report.Apart) :
    q.records.any (·.about r.kind r.subject) = false := by
  obtain ⟨-, -, hcross⟩ := List.pairwise_append.mp h
  exact List.any_eq_false.mpr fun x hx habout => hcross x hx r List.mem_cons_self (Report.about_iff.mp habout)

/-- A report apart from the records joins them where its kind is enabled and a record has room (R147). -/
theorem ReportQueue.settle_room (h : (q.records ++ r :: rest).Pairwise Report.Apart) (hroom : q.records.length < Config.maxReports) :
    (q.settle stamp r.kind r.subject r.detail r.count).lost = q.lost ∧
      (q.settle stamp r.kind r.subject r.detail r.count).records =
        q.records ++ if kindEnabled q.mask r.kind then [r.stamped stamp] else [] := by
  have hnew := ReportQueue.any_about_of_apart h
  rcases q.settle_cases stamp r.kind r.subject r.detail r.count with
    ⟨hoff, he⟩ | ⟨-, hany, -⟩ | ⟨-, -, hfull, -⟩ | ⟨hon, -, -, he⟩
  · rw [he, hoff]
    exact ⟨rfl, (List.append_nil _).symm⟩
  · rw [hnew] at hany
    cases hany
  · exact absurd hroom (Nat.not_lt.mpr hfull)
  · rw [he, hon]
    exact ⟨rfl, rfl⟩

/-- A report apart from the records joins them or leaves them (R147). -/
theorem ReportQueue.settle_extends (h : (q.records ++ r :: rest).Pairwise Report.Apart) :
    (q.settle stamp r.kind r.subject r.detail r.count).records = q.records ∨
      (q.settle stamp r.kind r.subject r.detail r.count).records = q.records ++ [r.stamped stamp] := by
  have hnew := ReportQueue.any_about_of_apart h
  rcases q.settle_cases stamp r.kind r.subject r.detail r.count with
    ⟨-, he⟩ | ⟨-, hany, -⟩ | ⟨-, -, -, he⟩ | ⟨-, -, -, he⟩
  · exact .inl (by rw [he])
  · rw [hnew] at hany
    cases hany
  · exact .inl (by rw [he])
  · exact .inr (by rw [he]; rfl)

/-- The reports behind a settled one are apart from the records it leaves. -/
theorem ReportQueue.settle_apart (h : (q.records ++ r :: rest).Pairwise Report.Apart) :
    ((q.settle stamp r.kind r.subject r.detail r.count).records ++ rest).Pairwise Report.Apart := by
  rcases ReportQueue.settle_extends (stamp := stamp) h with he | he <;> rw [he]
  · exact h.sublist ((List.sublist_cons_self r rest).append_left _)
  · obtain ⟨hrecords, hbehind, hcross⟩ := List.pairwise_append.mp h
    obtain ⟨hr, hrest⟩ := List.pairwise_cons.mp hbehind
    rw [List.append_assoc]
    refine List.pairwise_append.mpr ⟨hrecords, List.pairwise_cons.mpr ⟨hr, hrest⟩, fun a ha b hb => ?_⟩
    rcases List.mem_cons.mp hb with rfl | hb
    · exact hcross a ha r List.mem_cons_self
    · exact hcross a ha b (List.mem_cons_of_mem _ hb)

end

/-- Reports apart from each other and from the records go behind the records (R147). -/
theorem ReportQueue.settleAside_extends {q : ReportQueue} {rs : List Report} (stamp : Option Stamp)
    (h : (q.records ++ rs).Pairwise Report.Apart) : ∃ more, (q.settleAside stamp rs).records = q.records ++ more := by
  induction rs generalizing q with
  | nil => exact ⟨[], (List.append_nil _).symm⟩
  | cons r rest ih =>
    obtain ⟨more, hmore⟩ := ih (ReportQueue.settle_apart (stamp := stamp) h)
    rcases ReportQueue.settle_extends (stamp := stamp) h with he | he <;> rw [he] at hmore
    · exact ⟨more, hmore⟩
    · exact ⟨r.stamped stamp :: more, hmore.trans (List.append_assoc ..)⟩

/-- With room for all of them, the enabled ones join the records in their order, and none is lost (R147, R155). -/
theorem ReportQueue.settleAside_room {q : ReportQueue} {rs : List Report} (stamp : Option Stamp)
    (h : (q.records ++ rs).Pairwise Report.Apart) (hroom : q.records.length + rs.length ≤ Config.maxReports) :
    (q.settleAside stamp rs).lost = q.lost ∧
      (q.settleAside stamp rs).records =
        q.records ++ (rs.filter fun r => kindEnabled q.mask r.kind).map (Report.stamped stamp) := by
  induction rs generalizing q with
  | nil => exact ⟨rfl, (List.append_nil _).symm⟩
  | cons r rest ih =>
    rw [List.length_cons] at hroom
    obtain ⟨hlost, hrecords⟩ := ReportQueue.settle_room (stamp := stamp) h (by omega)
    have hlength : (q.settle stamp r.kind r.subject r.detail r.count).records.length ≤ q.records.length + 1 := by
      rw [hrecords]
      split <;> simp
    obtain ⟨hlost', hrecords'⟩ := ih (ReportQueue.settle_apart (stamp := stamp) h) (by omega)
    refine ⟨hlost'.trans hlost, hrecords'.trans ?_⟩
    rw [hrecords, ReportQueue.settle_mask, List.filter_cons]
    split <;> simp

/-- The reports that come later are apart from the records a settlement leaves. -/
theorem ReportQueue.settleAside_apart {q : ReportQueue} {rs more : List Report} (stamp : Option Stamp)
    (h : (q.records ++ (rs ++ more)).Pairwise Report.Apart) :
    ((q.settleAside stamp rs).records ++ more).Pairwise Report.Apart := by
  induction rs generalizing q with
  | nil => exact h
  | cons r rest ih => exact ih (ReportQueue.settle_apart h)

theorem ReportQueue.settleAside_append (q : ReportQueue) (stamp : Option Stamp) (rs more : List Report) :
    q.settleAside stamp (rs ++ more) = (q.settleAside stamp rs).settleAside stamp more := by
  induction rs generalizing q with
  | nil => rfl
  | cons r rest ih => exact ih _

/-! ## The re-seat's own report (R62, R90) -/

/-- The report of a re-seat with the stack empty and nothing selected: SELECTION of the page seated on, or LIST_STARVED of a list
with steps that found none (R62, R90). -/
def Rotation.ownReports (r : Rotation) (stamp : Option Stamp) : List Report :=
  match r.currentPage with
  | some page => [⟨.selection, page, 1, 1, stamp⟩]
  | none => if r.lists[r.active].steps = [] then [] else [⟨.listStarved, r.active.val, 0, 1, stamp⟩]

section
variable {r : Rotation} {stamp : Option Stamp}

theorem Rotation.ownReports_page {page : Nat} (h : r.currentPage = some page) :
    r.ownReports stamp = [⟨.selection, page, 1, 1, stamp⟩] := by
  rw [Rotation.ownReports, h]

theorem Rotation.ownReports_empty (h : r.currentPage = none) (hsteps : r.lists[r.active].steps = []) :
    r.ownReports stamp = [] := by
  rw [Rotation.ownReports, h]
  exact if_pos hsteps

theorem Rotation.ownReports_starved (h : r.currentPage = none) (hsteps : r.lists[r.active].steps ≠ []) :
    r.ownReports stamp = [⟨.listStarved, r.active.val, 0, 1, stamp⟩] := by
  rw [Rotation.ownReports, h]
  exact if_neg hsteps

end

/-- One report at most, of a kind of its own, with the stamp given (R145, R146). -/
theorem Rotation.ownReports_spec (r : Rotation) (stamp : Option Stamp) :
    (r.ownReports stamp).Pairwise Report.Apart ∧ (r.ownReports stamp).length ≤ 1 ∧
      ∀ own ∈ r.ownReports stamp,
        (own.kind = .selection ∨ own.kind = .listStarved) ∧ own.count = 1 ∧ own.stamped stamp = own := by
  unfold Rotation.ownReports
  split
  · exact ⟨List.pairwise_singleton _ _, Nat.le_refl 1, List.forall_mem_singleton.mpr ⟨.inl rfl, rfl, rfl⟩⟩
  · split
    · exact ⟨List.Pairwise.nil, Nat.zero_le _, List.forall_mem_nil _⟩
    · exact ⟨List.pairwise_singleton _ _, Nat.le_refl 1, List.forall_mem_singleton.mpr ⟨.inr rfl, rfl, rfl⟩⟩

/-- The three outcomes of a re-seat (R62). -/
theorem State.reseat_cases (s : State) (l : Fin 4) :
    (∃ j step, s.rotation.lists[l].steps[j]? = some step ∧
      s.reseat l = s.setRotation { s.rotation with active := l, seat := some ⟨j, step.dwell⟩ }) ∨
    (s.rotation.lists[l].steps = [] ∧ s.reseat l = s.setRotation { s.rotation with active := l, seat := none }) ∨
    (s.rotation.lists[l].steps ≠ [] ∧
      s.reseat l = (s.setRotation { s.rotation with active := l, seat := none }).offer .listStarved l.val 0) := by
  cases hfirst : s.firstStep s.rotation.lists[l].steps with
  | some j =>
    obtain ⟨step, hstep, -⟩ := State.firstStep_spec hfirst
    exact .inl ⟨j, step, hstep, by simp only [State.reseat, hfirst, seatOn_eq hstep]⟩
  | none =>
    by_cases hempty : s.rotation.lists[l].steps = []
    · exact .inr (.inl ⟨hempty, State.reseat_empty hempty⟩)
    · exact .inr (.inr ⟨hempty, State.reseat_starved hempty (State.firstStep_none hfirst)⟩)

section
variable {s : State} (hrecords : s.stack.records = []) (hblank : s.stack.selection = Selection.blank)
include hrecords hblank

/-- Nothing is reported where nothing was selected and the rotation offers no page (R90). -/
theorem State.recompute_reports_blank (hpage : s.rotation.currentPage = none) : s.recompute.reports = s.reports := by
  rcases s.recompute_cases with ⟨-, h⟩ | ⟨hchanged, -⟩
  · rw [h, State.setStack_reports]
  · rw [hrecords, hpage, hblank] at hchanged
    exact absurd ⟨rfl, rfl⟩ hchanged

/-- SELECTION is queued where nothing was selected and the rotation offers a page (R90). -/
theorem State.recompute_reports_page {page : Nat} (hphase : s.phase = .listening) (hpage : s.rotation.currentPage = some page) :
    s.recompute.reports = s.reports.settle s.calendar.stamp .selection page 1 1 := by
  rcases s.recompute_cases with ⟨⟨hsame, -⟩, -⟩ | ⟨-, h⟩
  · rw [hrecords, hpage, hblank] at hsame
    cases hsame
  · rw [h, State.offer_listening _ (State.listening_iff.mpr (by simpa using hphase)), hrecords, hpage]
    rfl

/-- A re-seat with the stack empty and nothing selected queues its own report (R62, R90). -/
theorem State.reseatAndOffer_reports (hphase : s.phase = .listening) (l : Fin 4) :
    (s.reseatAndOffer l).reports =
      s.reports.settleAside s.calendar.stamp ((s.reseat l).rotation.ownReports s.calendar.stamp) := by
  rw [State.reseatAndOffer]
  rcases s.reseat_cases l with ⟨j, step, hstep, h⟩ | ⟨hempty, h⟩ | ⟨hempty, h⟩ <;> rw [h]
  · have hpage : (s.setRotation { s.rotation with active := l, seat := some ⟨j, step.dwell⟩ }).rotation.currentPage =
        some step.page := by
      simp only [State.setRotation_rotation, Rotation.currentPage, Rotation.activeList, hstep, Option.map_some]
    rw [State.recompute_reports_page (by simpa using hrecords) (by simpa using hblank) (by simpa using hphase) hpage,
      Rotation.ownReports_page hpage]
    rfl
  · have hpage : (s.setRotation { s.rotation with active := l, seat := none }).rotation.currentPage = none := rfl
    rw [State.recompute_reports_blank (by simpa using hrecords) (by simpa using hblank) hpage,
      Rotation.ownReports_empty hpage hempty]
    rfl
  · have hpage : (s.setRotation { s.rotation with active := l, seat := none }).rotation.currentPage = none := rfl
    rw [State.recompute_reports_blank (by simpa using hrecords) (by simpa using hblank) (by simpa using hpage),
      State.offer_listening _ (State.listening_iff.mpr (by simpa using hphase)), State.offer_rotation,
      Rotation.ownReports_starved hpage hempty]
    rfl

end

/-! ## The outcome of a start-up restore (R142) -/

theorem Archive.current_notNewerB {a : Archive} {m n : Nat} (hA : a.recordA = some m) (hB : a.recordB = some n) (h : ¬m < n) :
    a.current = some (.a, m) := by
  simp only [Archive.current, hA, hB, if_neg h]

/-- The outcome by what the banks hold: FALLBACK where the other bank is damaged and its number is above the image's (R142). -/
theorem Archive.startOutcome_code (a : Archive) :
    a.checkBanks.startOutcome.code =
      match a.bankA, a.bankB with
      | .marked m _ true, .marked n _ false => if m < n then 1 else 0
      | .marked m _ false, .marked n _ true => if n < m then 1 else 0
      | .marked _ _ true, _ => 0
      | _, .marked _ _ true => 0
      | _, _ => 2 := by
  obtain ⟨bankA, bankB, recordA, recordB, startup, dirty, op⟩ := a
  cases bankA with
  | unmarked =>
    rcases bankB with _ | ⟨n, imageB, _ | _⟩
    · rfl
    · rfl
    · rfl
  | marked m imageA agreesA =>
    cases agreesA with
    | false =>
      rcases bankB with _ | ⟨n, imageB, _ | _⟩
      · rfl
      · rfl
      · exact apply_ite RestoreOutcome.code (n < m) .fallback .restored
    | true =>
      rcases bankB with _ | ⟨n, imageB, _ | _⟩
      · rfl
      · exact apply_ite RestoreOutcome.code (m < n) .fallback .restored
      · by_cases hless : m < n
        · rw [Archive.startOutcome, Archive.current_newerB rfl rfl hless]
          rfl
        · rw [Archive.startOutcome, Archive.current_notNewerB rfl rfl hless]
          rfl

/-! ## STARTED and the reports behind it (R142, R154, R155) -/

section
variable {s : State}

/-- The reports of a start come from the oscillation monitor, the calendar and the re-seat, so that none coalesces with STARTED or
with one of another of these (R90, R155). -/
theorem State.startReports_apart (hreports : s.ReportsOk)
    (haside : ∀ r ∈ s.reports.aside, r.kind = .clockLost ∨ r.kind = .calendarWrap) (cause : Cause) (x : Rotation) :
    ((s.startQueue cause).records ++ (s.reports.aside ++ x.ownReports s.calendar.stamp)).Pairwise Report.Apart := by
  obtain ⟨-, -, ⟨hdiffer, -⟩, -⟩ := hreports
  obtain ⟨howns, -, hown⟩ := x.ownReports_spec s.calendar.stamp
  have hkind {r q : Report} (h : r.kind ≠ q.kind) : r.Apart q := fun hsame => h hsame.1
  change ((s.startedReport cause) :: (s.reports.aside ++ x.ownReports s.calendar.stamp)).Pairwise Report.Apart
  refine List.pairwise_cons.mpr ⟨fun r hr => hkind ?_, List.pairwise_append.mpr ⟨hdiffer, howns, fun r hr q hq => hkind ?_⟩⟩
  · rcases List.mem_append.mp hr with hr | hr
    · rcases haside r hr with h | h <;> rw [h] <;> nofun
    · rcases (hown r hr).1 with h | h <;> rw [h] <;> nofun
  · rcases haside r hr with h | h <;> rcases (hown q hq).1 with h' | h' <;> rw [h, h'] <;> nofun

/-- The report queue of a part that has started and whose rotation is seated: STARTED, and behind it the reports held aside and the
re-seat's own (R154, R155). -/
def State.startedQueue (s : State) (cause : Cause) (x : Rotation) : ReportQueue :=
  (s.startQueue cause).settleAside s.calendar.stamp (s.reports.aside ++ x.ownReports s.calendar.stamp)

theorem State.started_reports (hstart : s.StartOk) {cause : Cause} (hphase : s.phase = .starting cause) (l : Fin 4) :
    ((s.startEnded cause).reseatAndOffer l).reports = s.startedQueue cause ((s.startEnded cause).reseatAndOffer l).rotation := by
  obtain ⟨hlistening, -, -, -, -, hstack, -, -, hcalendar, -⟩ := s.startEnded_blocks cause
  obtain ⟨⟨-, -, -, hempty, -⟩, -⟩ := hstart (by simp [hphase])
  rw [State.reseatAndOffer_reports (by rw [hstack, hempty]) (by rw [hstack, hempty]) hlistening, State.startEnded_reports, hcalendar,
    State.reseatAndOffer_rotation, State.startedQueue, ReportQueue.settleAside_append]

/-- The mask is the startup record's, no report is held aside any more, and ATTN is examined (R151, R153, R155). -/
theorem State.startedQueue_pins {s : State} (cause : Cause) (hreports : s.ReportsOk) (x : Rotation) :
    (s.startedQueue cause x).mask = s.startCollections.startup.mask ∧ (s.startedQueue cause x).aside = [] ∧
      (s.startedQueue cause x).AttnOk := by
  obtain ⟨-, -, ⟨-, hcounts⟩, -⟩ := hreports
  obtain ⟨-, -, hown⟩ := x.ownReports_spec s.calendar.stamp
  have hall : ∀ r ∈ s.reports.aside ++ x.ownReports s.calendar.stamp, 1 ≤ r.count ∧ r.count ≤ 255 :=
    List.forall_mem_append.mpr ⟨hcounts, fun r hr => by
      obtain ⟨-, hcount, -⟩ := hown r hr
      rw [hcount]
      decide⟩
  have hfirst : (s.startQueue cause).RecordsOk :=
    ⟨(by decide : 1 ≤ 16), List.pairwise_singleton _ _, List.forall_mem_singleton.mpr (by decide : 1 ≤ 1 ∧ 1 ≤ 255)⟩
  obtain ⟨-, hattn, haside⟩ := ReportQueue.settleAside_ok hall hfirst (Bool.and_true _).symm s.calendar.stamp
  exact ⟨(ReportQueue.settleAside_enables ..).1, haside, hattn⟩

section
variable (hreports : s.ReportsOk) (haside : ∀ r ∈ s.reports.aside, r.kind = .clockLost ∨ r.kind = .calendarWrap)
  (cause : Cause) (x : Rotation)
include hreports haside

/-- STARTED is the first record (R154). -/
theorem State.startedQueue_first : ∃ rest, (s.startedQueue cause x).records = s.startedReport cause :: rest :=
  ReportQueue.settleAside_extends _ (State.startReports_apart hreports haside cause x)

/-- The reports held aside follow STARTED where they are all enabled and fit (R155). -/
theorem State.startedQueue_aside (hfit : s.reports.aside.length ≤ 15)
    (henabled : ∀ r ∈ s.reports.aside, kindEnabled s.startCollections.startup.mask r.kind = true) :
    ∃ more, (s.startedQueue cause x).records =
      s.startedReport cause :: (s.reports.aside.map (Report.stamped s.calendar.stamp) ++ more) := by
  have hapart := State.startReports_apart hreports haside cause x
  obtain ⟨-, hrecords⟩ := ReportQueue.settleAside_room s.calendar.stamp
    (hapart.sublist ((List.sublist_append_left ..).append_left _)) (by simp [State.startQueue, Config.maxReports]; omega)
  obtain ⟨more, hmore⟩ := ReportQueue.settleAside_extends s.calendar.stamp
    (ReportQueue.settleAside_apart s.calendar.stamp hapart)
  rw [State.startedQueue, ReportQueue.settleAside_append]
  refine ⟨more, hmore.trans ?_⟩
  have hmask : (s.startQueue cause).mask = s.startCollections.startup.mask := rfl
  rw [hrecords, hmask, List.filter_eq_self.mpr henabled]
  rfl

/-- With room for all, the enabled reports held aside follow STARTED, and then the re-seat's own if it is enabled; none is lost
(R90, R155). -/
theorem State.startedQueue_all (hfit : s.reports.aside.length ≤ 14) :
    (s.startedQueue cause x).lost = false ∧
      (s.startedQueue cause x).records =
        s.startedReport cause ::
          ((s.reports.aside.filter fun r => kindEnabled s.startCollections.startup.mask r.kind).map
              (Report.stamped s.calendar.stamp) ++
            (x.ownReports s.calendar.stamp).filter fun r => kindEnabled s.startCollections.startup.mask r.kind) := by
  obtain ⟨-, hone, hown⟩ := x.ownReports_spec s.calendar.stamp
  obtain ⟨hlost, hrecords⟩ := ReportQueue.settleAside_room s.calendar.stamp
    (State.startReports_apart hreports haside cause x)
    (by simp only [State.startQueue, Config.maxReports, List.length_append, List.length_singleton]; omega)
  refine ⟨hlost, hrecords.trans ?_⟩
  have hstamped (enabled : Report → Bool) : ((x.ownReports s.calendar.stamp).filter enabled).map (Report.stamped s.calendar.stamp)
      = (x.ownReports s.calendar.stamp).filter enabled :=
    (List.map_congr_left fun r hr =>
      let ⟨_, _, hr'⟩ := hown r (List.mem_of_mem_filter hr)
      hr').trans (List.map_id _)
  rw [List.filter_append, List.map_append, hstamped]
  rfl

end

end

/-! ## A report offered during a start (R155) -/

/-- Among records of different kinds and subjects a report coalesces with one alone (R146, R147 row 2). -/
theorem coalesce_eq_set {records : List Report} (h : recordsOk records) {i : Nat} {r : Report} (hr : records[i]? = some r)
    (detail n : Nat) : coalesce records r.kind r.subject detail n = records.set i (r.fold detail n) := by
  obtain ⟨hi, rfl⟩ := List.getElem?_eq_some_iff.mp hr
  refine List.ext_getElem (by simp) fun j hj _ => ?_
  have hj' : j < records.length := by simpa using hj
  simp only [coalesce, List.getElem_map, List.getElem_set]
  by_cases hij : i = j
  · subst hij
    rw [if_pos (Report.about_iff.mpr ⟨rfl, rfl⟩), if_pos rfl]
  · have hother : ¬records[j].about records[i].kind records[i].subject = true := by
      intro habout
      obtain ⟨hdiffer, -⟩ := h
      obtain ⟨hkind, hsubject⟩ := Report.about_iff.mp habout
      rcases Nat.lt_or_gt_of_ne hij with hless | hless
      · exact List.pairwise_iff_getElem.mp hdiffer i j hi hj' hless ⟨hkind.symm, hsubject.symm⟩
      · exact List.pairwise_iff_getElem.mp hdiffer j i hj' hi hless ⟨hkind, hsubject⟩
    rw [if_neg hother, if_neg hij]

section
variable {s : State} (hphase : s.phase ≠ .listening) {k : Kind} {subject detail : Nat}
include hphase

/-- During a start a report coalesces with the one of its kind and subject that is held aside (R155). -/
theorem State.offer_aside_coalesces (haside : recordsOk s.reports.aside) {i : Nat} {r : Report} (hr : s.reports.aside[i]? = some r)
    (hk : r.kind = k) (hsubject : r.subject = subject) :
    s.offer k subject detail = s.setReports { s.reports with aside := s.reports.aside.set i (r.fold detail 1) } := by
  subst hk hsubject
  have hany : s.reports.aside.any (·.about r.kind r.subject) = true :=
    List.any_eq_true.mpr ⟨r, List.mem_of_getElem? hr, Report.about_iff.mpr ⟨rfl, rfl⟩⟩
  rw [State.offer, State.offerStamped, if_neg (mt State.listening_iff.mp hphase), ReportQueue.holdAside, if_pos hany,
    coalesce_eq_set haside hr]

/-- During a start a report of a new kind and subject is held aside behind the others (R155). -/
theorem State.offer_aside_new (hnew : ∀ r ∈ s.reports.aside, ¬(r.kind = k ∧ r.subject = subject)) :
    s.offer k subject detail =
      s.setReports { s.reports with aside := s.reports.aside ++ [⟨k, subject, detail, 1, none⟩] } := by
  have hany : ¬s.reports.aside.any (·.about k subject) = true := fun h =>
    let ⟨r, hr, habout⟩ := List.any_eq_true.mp h
    hnew r hr (Report.about_iff.mp habout)
  rw [State.offer, State.offerStamped, if_neg (mt State.listening_iff.mp hphase), ReportQueue.holdAside, if_neg hany]

end

/-- The end of a start outside its interval changes nothing (log entry 5). -/
theorem exec_startupComplete_idle {s : State} (h : ∀ cause, s.phase ≠ .starting cause) : exec .startupComplete s = .next s := by
  change execStartupComplete s = _
  unfold execStartupComplete
  split
  · rename_i cause hcause
    exact absurd hcause (h cause)
  · rfl

/-- An enabled kind other than STARTED is one whose position in the mask is set (R151). -/
theorem kindEnabled_of_ne {mask : Half} {k : Kind} (h : k ≠ .started) : kindEnabled mask k = mask.getLsbD k.code := by
  simp [kindEnabled, h]

/-- Settles O60: the queue at the end of a start is STARTED with the reports held aside and the re-seat's own settled behind it
(`State.started_reports`), none of which coalesce; they all join it where they fit. -/
theorem startedIsTheFirstReport : Obligations.StartedIsTheFirstReport := by
  unfold Obligations.StartedIsTheFirstReport
  refine ⟨fun s cause hphase hreports hstart => ?_, fun s k subject detail hphase hreports => ?_,
    fun s => exec_startupComplete_idle⟩
  · intro number outcome
    have hcode : s.archive.checkBanks.startOutcome.code = outcome := by
      rw [Archive.startOutcome_code]
      simp only [outcome]
      rcases s.archive.bankA with _ | ⟨m, imageA, _ | _⟩ <;> rcases s.archive.bankB with _ | ⟨n, imageB, _ | _⟩ <;> rfl
    clear_value outcome
    have haside := (hstart (by simp [hphase])).2
    have hexec := exec_startupComplete hphase
    have hqueue := State.started_reports hstart hphase s.startCollections.startup.list
    generalize (s.startEnded cause).reseatAndOffer s.startCollections.startup.list = t at hqueue hexec
    obtain ⟨hmask, hnone, hattn⟩ := State.startedQueue_pins cause hreports t.rotation
    obtain ⟨rest, hfirst⟩ := State.startedQueue_first hreports haside cause t.rotation
    rw [← hqueue] at hmask hnone hattn hfirst
    have henabled {r : Report} (h : r.kind ≠ .started) :
        t.reports.mask.getLsbD r.kind.code = kindEnabled s.startCollections.startup.mask r.kind := by
      rw [hmask, kindEnabled_of_ne h]
    have hnotStarted : ∀ r ∈ s.reports.aside, r.kind ≠ .started := fun r hr => by
      rcases haside r hr with h | h <;> rw [h] <;> nofun
    refine ⟨t, rest, hexec, hcode ▸ hfirst, fun hfit hall => ?_, fun hfit => ?_, ?_, hnone⟩
    · obtain ⟨more, hmore⟩ := State.startedQueue_aside hreports haside cause t.rotation hfit
        fun r hr => henabled (hnotStarted r hr) ▸ hall r hr
      rw [← hqueue, hfirst] at hmore
      exact ⟨more, (List.cons.inj hmore).2⟩
    · intro enabled own
      obtain ⟨hlost, hrecords⟩ := State.startedQueue_all hreports haside cause t.rotation hfit
      rw [← hqueue] at hlost hrecords
      rw [hfirst] at hrecords
      obtain ⟨-, -, hown⟩ := t.rotation.ownReports_spec s.calendar.stamp
      have hnotStarted' : ∀ r ∈ own, r.kind ≠ .started := fun r hr => by
        rcases (hown r hr).1 with h | h <;> rw [h] <;> nofun
      rw [List.filter_congr fun r hr => henabled (hnotStarted r hr), List.filter_congr fun r hr => henabled (hnotStarted' r hr)]
      exact ⟨(List.cons.inj hrecords).2, hlost⟩
    · exact hattn.trans (by rw [hfirst]; exact Bool.and_true _)
  · intro q
    obtain ⟨-, -, hasideOk, -⟩ := hreports
    exact ⟨fun i r hr hk hsubject => State.offer_aside_coalesces hphase hasideOk hr hk hsubject,
      fun hnew => State.offer_aside_new hphase hnew⟩

end Sys2Proof.Machine
end

section
/-! PROOFS. The selection, a record asked for, and the stack's part of a second tick (R76 to R80, R88 to R90). -/
namespace Sys2Proof.Machine
open Sys2Proof

/-! ## The selection (R88 to R90) -/

/-- The highest-priority record, the newest among equals, is the one that none before it exceeds and all after it stay below (R88). -/
theorem topOverride_eq {before after : List Override} {o : Override} (hbefore : ∀ x ∈ before, x.priority ≤ o.priority)
    (hafter : ∀ x ∈ after, x.priority < o.priority) : topOverride (before ++ o :: after) = some o := by
  induction before with
  | nil =>
    rw [List.nil_append, topOverride]
    cases htop : topOverride after with
    | none => rfl
    | some best => exact if_pos (hafter best (topOverride_mem htop))
  | cons p rest ih =>
    obtain ⟨hp, hrest⟩ := List.forall_mem_cons.mp hbefore
    rw [List.cons_append, topOverride, ih hrest]
    exact if_neg (Nat.not_lt_of_le hp)

/-- With a record on the stack the selection is the top record's page (R88). -/
theorem selectionOf_override {records : List Override} {o : Override} (h : topOverride records = some o) (offer : Option Nat) :
    selectionOf records offer = ⟨some o.page, .override, some o.identity⟩ := by
  simp only [selectionOf, h]

/-- The offer of a seated rotation is the page of the cursor's step (R61). -/
theorem Rotation.currentPage_seated {r : Rotation} {seat : Seat} {step : Step} (hseat : r.seat = some seat)
    (hstep : r.activeList.steps[seat.cursor]? = some step) : r.currentPage = some step.page := by
  rw [Rotation.currentPage, hseat]
  exact congrArg (Option.map Step.page) hstep

theorem Rotation.currentPage_unseated {r : Rotation} (h : r.seat = none) : r.currentPage = none := by
  rw [Rotation.currentPage, h]

/-- Settles O47: the selection recomputed is `selectionOf` the records and the rotation's offer, and the report goes by the
comparison that `State.recompute` makes. -/
theorem selectionIsTheTopRecord : Obligations.SelectionIsTheTopRecord := by
  unfold Obligations.SelectionIsTheTopRecord
  intro s new old
  have hnew : new = selectionOf s.stack.records s.rotation.currentPage := s.recompute_selection
  clear_value new
  subst hnew
  refine ⟨fun before o after hrecords hbefore hafter => ?_, fun seat step hrecords hseat hstep => ?_,
    fun hrecords hseat => ?_, fun hsame => if_pos hsame, fun hchanged => if_neg hchanged⟩
  · exact selectionOf_override (hrecords ▸ topOverride_eq hbefore hafter) _
  · rw [hrecords, Rotation.currentPage_seated hseat hstep]
    rfl
  · rw [hrecords, Rotation.currentPage_unseated hseat]
    rfl

/-! ## A record asked for (R76 to R78) -/

theorem any_identity_iff {records : List Override} {i : Identity} :
    records.any (·.identity == i) = true ↔ ∃ o ∈ records, o.identity = i := by
  simp

/-- The lowest priority present is the greatest lower bound of 7 and the priorities. -/
theorem le_lowestPriority_iff {records : List Override} {n : Nat} :
    n ≤ lowestPriority records ↔ n ≤ 7 ∧ ∀ o ∈ records, n ≤ o.priority := by
  have hfold (m : Nat) : n ≤ records.foldl (fun m o => min m o.priority) m ↔ n ≤ m ∧ ∀ o ∈ records, n ≤ o.priority := by
    induction records generalizing m with
    | nil => simp
    | cons o rest ih => rw [List.foldl_cons, ih, le_min_iff, List.forall_mem_cons, and_assoc]
  exact hfold 7

theorem lowestPriority_le {records : List Override} {o : Override} (h : o ∈ records) : lowestPriority records ≤ o.priority :=
  (le_lowestPriority_iff.mp le_rfl).2 o h

/-- Where no priority exceeds 7, the oldest record of the lowest priority is found, and only higher ones stand before it (R78). -/
theorem exists_oldestLowest {records : List Override} (hne : records ≠ []) (hle : ∀ o ∈ records, o.priority ≤ 7) :
    ∃ before victim after, records = before ++ victim :: after ∧ victim.priority = lowestPriority records ∧
      (∀ o ∈ before, victim.priority < o.priority) ∧
      records.find? (·.priority == lowestPriority records) = some victim := by
  cases hfind : records.find? (·.priority == lowestPriority records) with
  | some victim =>
    obtain ⟨hvictim, before, after, hsplit, hbefore⟩ := List.find?_eq_some_iff_append.mp hfind
    have hvictim : victim.priority = lowestPriority records := by simpa using hvictim
    refine ⟨before, victim, after, hsplit, hvictim, fun o ho => ?_, rfl⟩
    have hother : o.priority ≠ lowestPriority records := by simpa using hbefore o ho
    have hmem : o ∈ records := hsplit ▸ List.mem_append_left _ ho
    exact hvictim ▸ Nat.lt_of_le_of_ne (lowestPriority_le hmem) hother.symm
  | none =>
    have habove : ∀ o ∈ records, lowestPriority records < o.priority := fun o ho =>
      Nat.lt_of_le_of_ne (lowestPriority_le ho) fun heq => List.find?_eq_none.mp hfind o ho (beq_iff_eq.mpr heq.symm)
    obtain ⟨o, ho⟩ := List.exists_mem_of_ne_nil records hne
    exact absurd (le_lowestPriority_iff.mpr ⟨Nat.le_trans (habove o ho) (hle o ho), habove⟩) (Nat.not_succ_le_self _)

section
variable {s : State} {new : Override}

/-- The record of the same identity is replaced (R77). -/
theorem State.admitRecord_replaced (h : ∃ o ∈ s.stack.records, o.identity = new.identity) :
    s.admitRecord new = (.replaced,
      s.setStack { s.stack with records := s.stack.records.filter (·.identity != new.identity) ++ [new] }) :=
  if_pos (any_identity_iff.mpr h)

/-- Where there is room, a new record joins the end (R78). -/
theorem State.admitRecord_created (h : ¬∃ o ∈ s.stack.records, o.identity = new.identity) (hroom : s.stack.records.length < 6) :
    s.admitRecord new = (.created, s.setStack { s.stack with records := s.stack.records ++ [new] }) :=
  (if_neg (mt any_identity_iff.mp h)).trans (if_pos hroom)

/-- In a full stack the record found of the lowest priority is evicted for a higher one (R78). -/
theorem State.admitRecord_full (h : ¬∃ o ∈ s.stack.records, o.identity = new.identity) (hfull : 6 ≤ s.stack.records.length)
    (hlower : lowestPriority s.stack.records < new.priority) {victim : Override}
    (hfind : s.stack.records.find? (·.priority == lowestPriority s.stack.records) = some victim) :
    s.admitRecord new = (.evicted victim.page,
      (s.setStack { s.stack with records := s.stack.records.erase victim ++ [new] }).offer .overrideEnded victim.page 4) := by
  refine (if_neg (mt any_identity_iff.mp h)).trans
    ((if_neg (Nat.not_lt_of_le hfull)).trans ((if_pos hlower).trans ?_))
  rw [hfind]

/-- In a full stack the victim of a higher priority is the oldest record of the lowest one (R78). -/
theorem State.admitRecord_evicted (h : ¬∃ o ∈ s.stack.records, o.identity = new.identity) (hfull : 6 ≤ s.stack.records.length)
    (hle : ∀ o ∈ s.stack.records, o.priority ≤ 7) (hlower : ∃ o ∈ s.stack.records, o.priority < new.priority) :
    ∃ before victim after, s.stack.records = before ++ victim :: after ∧
      (∀ o ∈ s.stack.records, victim.priority ≤ o.priority) ∧ (∀ o ∈ before, victim.priority < o.priority) ∧
      s.admitRecord new = (.evicted victim.page,
        (s.setStack { s.stack with records := before ++ after ++ [new] }).offer .overrideEnded victim.page 4) := by
  obtain ⟨o, ho, hpriority⟩ := hlower
  obtain ⟨before, victim, after, hsplit, hlowest, hbefore, hfind⟩ := exists_oldestLowest (List.ne_nil_of_mem ho) hle
  have herase : s.stack.records.erase victim = before ++ after := by
    rw [hsplit, List.erase_append_right _ fun hmem => Nat.lt_irrefl _ (hbefore victim hmem), List.erase_cons_head]
  refine ⟨before, victim, after, hsplit, fun x hx => hlowest ▸ lowestPriority_le hx, hbefore, ?_⟩
  rw [State.admitRecord_full h hfull (Nat.lt_of_le_of_lt (lowestPriority_le ho) hpriority) hfind, herase]

/-- In a full stack of no lower priority a new record is refused (R78). -/
theorem State.admitRecord_refused (h : ¬∃ o ∈ s.stack.records, o.identity = new.identity) (hfull : 6 ≤ s.stack.records.length)
    (hle : new.priority ≤ 7) (hnone : ∀ o ∈ s.stack.records, new.priority ≤ o.priority) : s.admitRecord new = (.refused, s) :=
  (if_neg (mt any_identity_iff.mp h)).trans ((if_neg (Nat.not_lt_of_le hfull)).trans
    (if_neg (Nat.not_lt_of_le (le_lowestPriority_iff.mpr ⟨hle, hnone⟩))))

end

/-! ## The SHOW hand-off (R79) -/

theorem State.present_eq_true {s : State} {id : Nat} : s.present id = true ↔ s.findPage id ≠ none := by
  rw [← Bool.not_eq_false, ne_eq, State.present_eq_false]

section
variable {s t : State} {slot page priority duration : Nat}

theorem State.takeShow_absent (h : s.findPage page = none) :
    s.takeShow slot page priority duration = s.offer .pageMissing page slot := by
  rw [State.takeShow, State.present_eq_false.mpr h]
  rfl

/-- A SHOW that the stack admits recomputes the selection (R79). -/
theorem State.takeShow_admitted {a : Admission} (h : s.findPage page ≠ none)
    (hadmit : s.admitRecord ⟨.schedule slot, page, priority, readDuration duration⟩ = (a, t)) (ha : a ≠ .refused) :
    s.takeShow slot page priority duration = t.recompute := by
  rw [State.takeShow, if_pos (State.present_eq_true.mpr h), hadmit]
  cases a with
  | refused => exact absurd rfl ha
  | created => rfl
  | replaced => rfl
  | evicted victim => rfl

theorem State.takeShow_refused (h : s.findPage page ≠ none)
    (hadmit : s.admitRecord ⟨.schedule slot, page, priority, readDuration duration⟩ = (.refused, t)) :
    s.takeShow slot page priority duration = s.offer .overrideRefused slot page := by
  rw [State.takeShow, if_pos (State.present_eq_true.mpr h), hadmit]

end

/-- Settles O52: the page first, and then the four outcomes of `State.admitRecord`. -/
theorem scheduleShowSettlesByTheTable : Obligations.ScheduleShowSettlesByTheTable := by
  unfold Obligations.ScheduleShowSettlesByTheTable
  intro s slot page priority duration old new stands took
  refine ⟨State.takeShow_absent, fun hpage => ⟨fun hstands => ?_, fun hnew hroom => ?_, fun hnew hfull hle hlower => ?_,
    fun hnew hfull hle hnone => ?_⟩⟩
  · exact State.takeShow_admitted hpage (State.admitRecord_replaced hstands) nofun
  · exact State.takeShow_admitted hpage (State.admitRecord_created hnew hroom) nofun
  · obtain ⟨before, victim, after, hsplit, hlowest, hbefore, hadmit⟩ :=
      State.admitRecord_evicted (new := new) hnew hfull hle hlower
    exact ⟨before, victim, after, hsplit, hlowest, hbefore, State.takeShow_admitted hpage hadmit nofun⟩
  · exact State.takeShow_refused hpage (State.admitRecord_refused hnew hfull hle hnone)

/-! ## The second tick (R80, R94) -/

/-- A record expires when it is timed and at most a second is left (R80). -/
theorem Override.expiring_eq (o : Override) : o.expiring = o.remaining.any fun r => decide (r ≤ 1) := by
  rw [Override.expiring]
  cases o.remaining <;> rfl

/-- Every timed record has counted, and those that reach 0 have left with their reports (R80). -/
def State.countedDown (s : State) : State :=
  (s.stack.records.filter Override.expiring).foldl (fun t o => t.offer .overrideEnded o.page 1)
    (s.setStack { s.stack with records := (s.stack.records.filter fun o => !o.expiring).map Override.count })

theorem State.countOverrides_eq (s : State) :
    s.countOverrides = if (s.stack.records.filter Override.expiring).isEmpty then s.countedDown else s.countedDown.recompute := by
  rw [State.countOverrides, State.offerEnded_eq_foldl]
  rfl

section
variable {s : State}

theorem State.countOverrides_expires (h : ∃ o ∈ s.stack.records, o.expiring = true) :
    s.countOverrides = s.countedDown.recompute := by
  refine s.countOverrides_eq.trans (if_neg fun hnone => ?_)
  obtain ⟨o, ho, hexpiring⟩ := h
  exact List.filter_eq_nil_iff.mp (List.isEmpty_iff.mp hnone) o ho hexpiring

theorem State.countOverrides_stands (h : ¬∃ o ∈ s.stack.records, o.expiring = true) : s.countOverrides = s.countedDown :=
  s.countOverrides_eq.trans (if_pos (List.isEmpty_iff.mpr (List.filter_eq_nil_iff.mpr fun o ho hexpiring => h ⟨o, ho, hexpiring⟩)))

theorem exec_overrideCountdown_owed (h : 0 < s.owed.stack) :
    exec .overrideCountdown s = .next (s.setOwed s.owed.lessStack).countOverrides :=
  if_neg (Nat.ne_of_gt h)

theorem exec_overrideCountdown_none (h : s.owed.stack = 0) : exec .overrideCountdown s = .next s := if_pos h

/-- The expiry command acts on an owed tick that ends a record (log entry 5). -/
theorem exec_overrideExpiry_ends (howed : 0 < s.owed.stack) (h : ∃ o ∈ s.stack.records, o.expiring = true) :
    exec .overrideExpiry s = .next (s.setOwed s.owed.lessStack).countOverrides :=
  if_pos ⟨howed, List.any_eq_true.mpr h⟩

/-- The expiry command changes nothing otherwise (log entry 5). -/
theorem exec_overrideExpiry_idle (h : ¬(0 < s.owed.stack ∧ ∃ o ∈ s.stack.records, o.expiring = true)) :
    exec .overrideExpiry s = .next s :=
  if_neg fun ⟨howed, hany⟩ => h ⟨howed, List.any_eq_true.mp hany⟩

end

/-- Settles O46: both commands come to `State.countOverrides`, which recomputes the selection where a record expires. -/
theorem overridesCountDown : Obligations.OverridesCountDown := by
  unfold Obligations.OverridesCountDown
  intro s taken dying
  have hdying : dying = Override.expiring := funext fun o => o.expiring_eq.symm
  clear_value dying
  subst hdying
  intro kept counted due
  refine ⟨fun hnone => ⟨exec_overrideCountdown_none hnone, exec_overrideExpiry_idle fun hends => ?_⟩,
    fun howed hlong => ⟨?_, exec_overrideExpiry_idle fun hends => hlong hends.2⟩, fun howed hends => ?_⟩
  · exact Nat.ne_of_gt hends.1 hnone
  · rw [exec_overrideCountdown_owed howed, State.countOverrides_stands (s := s.setOwed s.owed.lessStack) hlong]
    rfl
  · rw [exec_overrideCountdown_owed howed, exec_overrideExpiry_ends howed hends,
      State.countOverrides_expires (s := s.setOwed s.owed.lessStack) hends]
    exact ⟨rfl, rfl⟩

end Sys2Proof.Machine
end

section
/-! PROOFS. The override stack's requests: SHOW_NOW, CLEAR_OVERRIDE, CLEAR_BELOW and LIST_OVERRIDES (R76, R81, R83, R87). -/
namespace Sys2Proof.Machine
open Sys2Proof

/-! ## The operands and the reply -/

/-- A priority in range is read (R74). -/
theorem readPriority_eq {b : Byte} (h : 1 ≤ b.toNat ∧ b.toNat ≤ 7) : readPriority b = some b.toNat := if_pos h

/-- A priority out of range is not read (R74). -/
theorem readPriority_none {b : Byte} (h : ¬(1 ≤ b.toNat ∧ b.toNat ≤ 7)) : readPriority b = none := if_neg h

/-- The record that a SHOW_NOW asks for (R76). -/
def hostRecord (page priority : Byte) (duration : Half) : Override :=
  ⟨.host page.toNat, page.toNat, priority.toNat, if duration = 0 then none else some duration.toNat⟩

theorem hostRecord_eq (page priority : Byte) (duration : Half) :
    ⟨.host page.toNat, page.toNat, priority.toNat, readDuration duration.toNat⟩ = hostRecord page priority duration :=
  congrArg _ (if_congr (BitVec.toNat_inj (y := 0)) rfl rfl)

/-- A reply produced after a report is offered may as well be produced before (R162). -/
theorem State.offer_reply (s : State) (k : Kind) (subject detail : Nat) (r : Reply) :
    (s.offer k subject detail).reply r = (s.reply r).offer k subject detail := rfl

/-- A reply produced after a recomputation may as well be produced before (R162). -/
theorem State.recompute_reply (s : State) (r : Reply) : s.recompute.reply r = (s.reply r).recompute := by
  simp only [State.reply, State.recompute_setLink, State.recompute_link]

/-- A reply produced after records end may as well be produced before (R162). -/
theorem State.endOverrides_reply (s : State) (gone : Override → Bool) (detail : Nat) (r : Reply) :
    (s.endOverrides gone detail).reply r = (s.reply r).endOverrides gone detail := by
  simp only [State.reply, State.endOverrides_setLink, State.endOverrides_link]

/-! ## SHOW_NOW (R76 to R78) -/

section
variable {s t : State} {tag page priority : Byte} {duration : Half}
  (hr : s.link.handed = some ⟨tag, 0x48, page :: priority :: halfBytes duration⟩)
include hr

theorem exec_showNow_badField (h : ¬(page ≠ 0 ∧ page ≠ 255 ∧ 1 ≤ priority.toNat ∧ priority.toNat ≤ 7)) :
    exec (.showNow tag page priority duration) s = .next (s.answered (refusal tag .badField)) := by
  refine congrArg _ (takeRequest_refused hr ?_)
  by_cases hpage : page ≠ 0 ∧ page ≠ 255
  · have hpriority : ¬(1 ≤ priority.toNat ∧ priority.toNat ≤ 7) := fun hin => h ⟨hpage.1, hpage.2, hin⟩
    simp only [readPageId_eq hpage.1 hpage.2, readPriority_none hpriority, Taken.no]
  · simp only [readPageId_none hpage, Taken.no]

variable (hin : page ≠ 0 ∧ page ≠ 255 ∧ 1 ≤ priority.toNat ∧ priority.toNat ≤ 7)
include hin

theorem exec_showNow_absent (h : s.findPage page.toNat = none) :
    exec (.showNow tag page priority duration) s = .next (s.answered (refusal tag .noSuch)) := by
  obtain ⟨h0, h255, hpriority⟩ := hin
  have hpresent : s.unhand.present page.toNat = false := State.present_eq_false.mpr h
  refine congrArg _ (takeRequest_refused hr ?_)
  simp only [readPageId_eq h0 h255, readPriority_eq hpriority, hpresent]
  rfl

variable (hpage : s.findPage page.toNat ≠ none)
include hpage

/-- A SHOW_NOW that the stack admits is answered, and the selection is recomputed (R76). -/
theorem exec_showNow_admitted {a : Admission}
    (hadmit : s.unhand.admitRecord (hostRecord page priority duration) = (a, t))
    (ha : a ≠ .refused) :
    exec (.showNow tag page priority duration) s =
      .next (t.reply (okReply tag (admissionBytes a t.stack.records.length))).recompute := by
  obtain ⟨h0, h255, hpriority⟩ := hin
  have hpresent : s.unhand.present page.toNat = true := State.present_eq_true.mpr hpage
  refine congrArg _ ((takeRequest_ok (t := t.recompute) hr ?_).trans (t.recompute_reply _))
  simp only [readPageId_eq h0 h255, readPriority_eq hpriority, hostRecord_eq, hpresent, hadmit]
  cases a with
  | refused => exact absurd rfl ha
  | created => rfl
  | replaced => rfl
  | evicted victim => rfl

theorem exec_showNow_noRoom
    (hadmit : s.unhand.admitRecord (hostRecord page priority duration) = (.refused, t)) :
    exec (.showNow tag page priority duration) s = .next (s.answered (refusal tag .noRoom)) := by
  obtain ⟨h0, h255, hpriority⟩ := hin
  have hpresent : s.unhand.present page.toNat = true := State.present_eq_true.mpr hpage
  refine congrArg _ (takeRequest_refused hr ?_)
  simp only [readPageId_eq h0 h255, readPriority_eq hpriority, hostRecord_eq, hpresent, hadmit]
  rfl

end

/-- Settles O44: the checks of R76 in their order, and then the four outcomes of `State.admitRecord`. -/
theorem showNowReplacesCreatesOrEvicts : Obligations.ShowNowReplacesCreatesOrEvicts := by
  unfold Obligations.ShowNowReplacesCreatesOrEvicts
  rintro tag page priority duration s ⟨_, ⟨⟩, hr⟩ c inRange present old stands new took
  refine ⟨exec_showNow_badField hr, fun hin habsent => exec_showNow_absent hr hin (not_not.mp habsent),
    fun hin hpage hstands => ?_, fun hin hpage hnew hroom => ?_, fun hin hpage hnew hfull hle hlower => ?_,
    fun hin hpage hnew hfull hnone => ?_⟩
  · exact exec_showNow_admitted hr hin hpage (State.admitRecord_replaced (s := s.unhand) (new := new) hstands) nofun
  · have hlength : (old ++ [new]).length = old.length + 1 := List.length_append
    rw [← hlength]
    exact exec_showNow_admitted hr hin hpage (State.admitRecord_created (s := s.unhand) (new := new) hnew hroom) nofun
  · obtain ⟨before, victim, after, hsplit, hlowest, hbefore, hadmit⟩ :=
      State.admitRecord_evicted (s := s.unhand) (new := new) hnew hfull hle hlower
    refine ⟨before, victim, after, hsplit, hlowest, hbefore, ?_⟩
    have hlength : old.length = (before ++ after ++ [new]).length := by
      rw [show old = before ++ victim :: after from hsplit]
      simp
    rw [exec_showNow_admitted hr hin hpage hadmit nofun, State.offer_stack, State.setStack_stack, State.offer_reply, hlength]
    rfl
  · exact exec_showNow_noRoom hr hin hpage (State.admitRecord_refused (s := s.unhand) (new := new) hnew hfull hin.2.2.2 hnone)

/-! ## CLEAR_OVERRIDE and CLEAR_BELOW (R81, R83) -/

/-- Records end, their reports listed one after another (5.3). -/
theorem State.endOverrides_eq_foldl (s : State) (gone : Override → Bool) (detail : Nat) :
    s.endOverrides gone detail =
      (s.stack.records.filter gone).foldl (fun t o => t.offer .overrideEnded o.page detail)
        (s.setStack { s.stack with records := s.stack.records.filter fun o => !gone o }) :=
  State.offerEnded_eq_foldl _ _ _

/-- A request that ends records is answered first, and then they end with their reports (R81, R83, R162). -/
theorem takeRequest_ends {r : Request} {owner : State → Taken} {s : State} (hr : s.link.handed = some r) {payload : List Byte}
    {gone : Override → Bool} (ho : owner s.unhand = .ok payload (s.unhand.endOverrides gone 2).recompute) :
    takeRequest r owner s =
      ((s.stack.records.filter gone).foldl (fun t o => t.offer .overrideEnded o.page 2)
        ((s.answered (okReply r.tag payload)).setStack
          { s.stack with records := s.stack.records.filter fun o => !gone o })).recompute := by
  rw [takeRequest_ok hr ho, State.recompute_reply, State.endOverrides_reply, State.endOverrides_eq_foldl]
  rfl

/-! ## LIST_OVERRIDES (R87) -/

/-- The place of the selected record is that of the first record of its identity (R87). -/
theorem OverrideStack.selectedPosition_eq {st : OverrideStack} {before after : List Override} {o : Override}
    (hrecords : st.records = before ++ o :: after) (hselected : st.selection.record = some o.identity)
    (hbefore : ∀ x ∈ before, x.identity ≠ o.identity) : st.selectedPosition = some before.length := by
  rw [OverrideStack.selectedPosition, hselected, hrecords]
  dsimp only
  rw [List.find?_eq_some_iff_getElem]
  refine ⟨by simp, before.length, by simp, by simp, fun j hj => ?_⟩
  simp [List.getElem?_append_left hj, List.getElem?_eq_getElem hj, hbefore _ (List.getElem_mem hj)]

theorem OverrideStack.selectedPosition_none {st : OverrideStack} (h : st.selection.record = none) : st.selectedPosition = none := by
  rw [OverrideStack.selectedPosition, h]

theorem exec_listOverrides {s : State} {tag : Byte} (hr : s.link.handed = some ⟨tag, 0x4B, []⟩) :
    exec (.listOverrides tag) s = .next (s.answered (okReply tag (overrideListBytes s.stack))) :=
  congrArg Host.Outcome.next (takeRequest_ok (t := s.unhand) (payload := overrideListBytes s.stack) hr rfl)

/-- Settles O45: each of the first two requests reads its operand and ends its records (`takeRequest_ends`), and the reply of the third
turns on the selected record's place. -/
theorem overrideListRequests : Obligations.OverrideListRequests := by
  unfold Obligations.OverrideListRequests
  refine ⟨fun tag operand s => ⟨?clearOverride, ?clearBelow⟩, ?listOverrides⟩
  case clearOverride =>
    rintro ⟨_, ⟨⟩, hr⟩ c stands
    refine ⟨fun hbad => ?_, fun h0 h255 hnone => ?_, fun h0 h255 hstands => ?_⟩
    · refine congrArg _ (takeRequest_refused hr ?_)
      simp only [readPageId_none (b := operand) fun hin => hbad.elim hin.1 hin.2, Taken.no]
    · refine congrArg _ (takeRequest_refused hr ?_)
      simp only [readPageId_eq h0 h255, Taken.no]
      exact if_neg (mt any_identity_iff.mp hnone)
    · refine congrArg Host.Outcome.next (takeRequest_ends hr ?_)
      simp only [readPageId_eq h0 h255]
      exact if_pos (any_identity_iff.mpr hstands)
  case clearBelow =>
    rintro ⟨_, ⟨⟩, hr⟩ c
    refine ⟨fun hbad => ?_, fun h0 h7 => ?_⟩
    · have hout : ¬(1 ≤ operand.toNat ∧ operand.toNat ≤ 7) := by
        rintro ⟨hlow, hhigh⟩
        rcases hbad with rfl | hbad
        · exact absurd hlow (by decide)
        · omega
      refine congrArg _ (takeRequest_refused hr ?_)
      simp only [readPriority_none hout, Taken.no]
    · have hlow : operand.toNat ≠ 0 := fun h => h0 (BitVec.eq_of_toNat_eq h)
      refine congrArg Host.Outcome.next (takeRequest_ends hr ?_)
      simp only [readPriority_eq ⟨Nat.one_le_iff_ne_zero.mpr hlow, h7⟩]
      rfl
  case listOverrides =>
    rintro tag s ⟨_, ⟨⟩, hr⟩ rows
    refine ⟨fun hnone => ?_, fun before o after hrecords hselected hbefore => ?_⟩
    · rw [exec_listOverrides hr, overrideListBytes, OverrideStack.selectedPosition_none hnone]
      rfl
    · rw [exec_listOverrides hr, overrideListBytes, OverrideStack.selectedPosition_eq hrecords hselected hbefore]
      rfl

end Sys2Proof.Machine
end

section
/-! PROOFS. The calendar's advance: one second more is one second later on the true calendar (R96, R97). -/
namespace Sys2Proof.Machine
open Sys2Proof

/-! ## The day after a date (R96, R97) -/

/-- A month begins where the one before it ends (R96). -/
theorem daysBeforeMonth_succ {month : Nat} (h : 1 ≤ month) (year : Nat) :
    daysBeforeMonth year (month + 1) = daysBeforeMonth year month + monthLength year month := by
  obtain ⟨m, rfl⟩ := Nat.exists_eq_add_of_le' h
  rfl

/-- December begins after 334 days of a common year, and after 335 of a leap year (R96). -/
theorem daysBeforeMonth_december (year : Nat) : daysBeforeMonth year 12 = if year % 4 = 0 then 335 else 334 := by
  by_cases hleap : year % 4 = 0 <;> simp [daysBeforeMonth, monthLength, hleap]

section
variable {f : CalendarFields}

theorem CalendarFields.nextDay_within (hday : f.day < monthLength f.year f.month) :
    f.nextDay = { f with day := f.day + 1, weekday := weekdayOf f.year f.month (f.day + 1) } := by
  rw [CalendarFields.nextDay, if_pos hday]

theorem CalendarFields.nextDay_monthEnd (hday : ¬f.day < monthLength f.year f.month) (hmonth : f.month < 12) :
    f.nextDay = { f with month := f.month + 1, day := 1, weekday := weekdayOf f.year (f.month + 1) 1 } := by
  rw [CalendarFields.nextDay, if_neg hday, if_pos hmonth]

theorem CalendarFields.nextDay_yearEnd (hday : ¬f.day < monthLength f.year f.month) (hmonth : ¬f.month < 12)
    (hyear : f.year < 2099) :
    f.nextDay = { f with year := f.year + 1, month := 1, day := 1, weekday := weekdayOf (f.year + 1) 1 1 } := by
  rw [CalendarFields.nextDay, if_neg hday, if_neg hmonth, if_pos hyear]

/-- A day later the weekday is that of the new date (R97). -/
theorem CalendarFields.nextDay_weekday (f : CalendarFields) :
    f.nextDay.weekday = weekdayOf f.nextDay.year f.nextDay.month f.nextDay.day := rfl

/-- The date a day later is the next day of the true calendar, at every date but the last of 2099 (R96, R97). -/
theorem CalendarFields.Ok.dayNumber_nextDay (h : f.Ok) (hlast : ¬(f.year = 2099 ∧ f.month = 12 ∧ f.day = 31)) :
    dayNumber f.nextDay.year f.nextDay.month f.nextDay.day = dayNumber f.year f.month f.day + 1 := by
  obtain ⟨hylow, hyhigh, hmlow, hmhigh, hdlow, hdhigh, -⟩ := h
  by_cases hday : f.day < monthLength f.year f.month
  · rw [CalendarFields.nextDay_within hday]
    simp only [dayNumber]
    omega
  by_cases hmonth : f.month < 12
  · rw [CalendarFields.nextDay_monthEnd hday hmonth]
    simp only [dayNumber, daysBeforeMonth_succ hmlow]
    omega
  · obtain hdecember : f.month = 12 := by omega
    have hlength : monthLength f.year 12 = 31 := rfl
    rw [hdecember, hlength] at hday hdhigh
    have hyear : f.year < 2099 := by omega
    rw [CalendarFields.nextDay_yearEnd (by rw [hdecember]; exact hday) hmonth hyear]
    simp only [dayNumber, hdecember, daysBeforeMonth_december, daysBeforeMonth]
    split <;> omega

/-! ## The second after a time (R97) -/

theorem CalendarFields.nextSecond_within (hsecond : f.second < 59) : f.nextSecond = { f with second := f.second + 1 } :=
  if_pos hsecond

theorem CalendarFields.nextSecond_minuteEnd (hsecond : ¬f.second < 59) (hminute : f.minute < 59) :
    f.nextSecond = { f with second := 0, minute := f.minute + 1 } := by
  rw [CalendarFields.nextSecond, if_neg hsecond, if_pos hminute]

theorem CalendarFields.nextSecond_hourEnd (hsecond : ¬f.second < 59) (hminute : ¬f.minute < 59) (hhour : f.hour < 23) :
    f.nextSecond = { f with second := 0, minute := 0, hour := f.hour + 1 } := by
  rw [CalendarFields.nextSecond, if_neg hsecond, if_neg hminute, if_pos hhour]

/-- The date and time at the beginning of a day: the fields a midnight hands to the next day (R97). -/
def CalendarFields.atMidnight (f : CalendarFields) : CalendarFields := { f with second := 0, minute := 0, hour := 0 }

theorem CalendarFields.nextSecond_dayEnd (hsecond : ¬f.second < 59) (hminute : ¬f.minute < 59) (hhour : ¬f.hour < 23) :
    f.nextSecond = f.atMidnight.nextDay := by
  rw [CalendarFields.nextSecond, if_neg hsecond, if_neg hminute, if_neg hhour]
  rfl

theorem CalendarFields.Ok.atMidnight (h : f.Ok) : f.atMidnight.Ok :=
  let ⟨hylow, hyhigh, hmlow, hmhigh, hdlow, hdhigh, _, _, _, hweekday⟩ := h
  ⟨hylow, hyhigh, hmlow, hmhigh, hdlow, hdhigh, Nat.zero_le _, Nat.zero_le _, Nat.zero_le _, hweekday⟩

/-- The second passes to 0 at the end of a minute (R97). -/
theorem CalendarFields.nextSecond_second (f : CalendarFields) :
    f.nextSecond.second = if f.second < 59 then f.second + 1 else 0 := by
  unfold CalendarFields.nextSecond
  split_ifs <;> rfl

theorem CalendarFields.isLast_iff :
    f.isLast = true ↔
      f.year = 2099 ∧ f.month = 12 ∧ f.day = 31 ∧ f.hour = 23 ∧ f.minute = 59 ∧ f.second = 59 := by
  simp only [CalendarFields.isLast, Bool.and_eq_true, beq_iff_eq, and_assoc]

/-- The last second of the range is followed by the first (R97). -/
theorem CalendarFields.nextSecond_last (h : f.isLast = true) : f.nextSecond = ⟨2000, 1, 1, 0, 0, 0, 5⟩ := by
  obtain ⟨year, month, day, hour, minute, second, weekday⟩ := f
  obtain ⟨rfl, rfl, rfl, rfl, rfl, rfl⟩ := CalendarFields.isLast_iff.mp h
  rfl

/-- One second more of a valid date and time that is not the last is one second later, with the weekday a day further when the day
rolls (R96, R97). -/
theorem CalendarFields.Ok.nextSecond_later (h : f.Ok) (hlast : f.isLast = false) :
    f.nextSecond.absolute = f.absolute + 1 ∧
      f.nextSecond.weekday =
        if f.hour = 23 ∧ f.minute = 59 ∧ f.second = 59 then (f.weekday + 1) % 7 else f.weekday := by
  have hmidnight := h.atMidnight
  obtain ⟨-, -, -, -, -, -, hhourMax, hminuteMax, hsecondMax, hweekday⟩ := h
  by_cases hsecond : f.second < 59
  · rw [CalendarFields.nextSecond_within hsecond, if_neg (by omega)]
    exact ⟨rfl, rfl⟩
  by_cases hminute : f.minute < 59
  · rw [CalendarFields.nextSecond_minuteEnd hsecond hminute, if_neg (by omega)]
    refine ⟨?_, rfl⟩
    simp only [CalendarFields.absolute]
    omega
  by_cases hhour : f.hour < 23
  · rw [CalendarFields.nextSecond_hourEnd hsecond hminute hhour, if_neg (by omega)]
    refine ⟨?_, rfl⟩
    simp only [CalendarFields.absolute]
    omega
  · have htime : f.hour = 23 ∧ f.minute = 59 ∧ f.second = 59 := by omega
    have hdate : ¬(f.year = 2099 ∧ f.month = 12 ∧ f.day = 31) := fun ⟨hyear, hmonth, hday⟩ =>
      Bool.eq_false_iff.mp hlast (CalendarFields.isLast_iff.mpr ⟨hyear, hmonth, hday, htime⟩)
    have hnumber : dayNumber f.atMidnight.nextDay.year f.atMidnight.nextDay.month f.atMidnight.nextDay.day =
        dayNumber f.year f.month f.day + 1 := hmidnight.dayNumber_nextDay hdate
    rw [CalendarFields.nextSecond_dayEnd hsecond hminute hhour, if_pos htime]
    constructor
    · rw [CalendarFields.absolute, CalendarFields.absolute, hnumber]
      change ((_ * 24 + 0) * 60 + 0) * 60 + 0 = _
      omega
    · rw [CalendarFields.nextDay_weekday, weekdayOf, hnumber, hweekday, weekdayOf]
      omega

end

/-- Settles O22: the next second is valid (`CalendarFields.Ok.nextSecond`), and by the minute, hour or day it ends it is one second
later (`CalendarFields.Ok.nextSecond_later`). -/
theorem nextSecondIsOneSecondLater : Obligations.NextSecondIsOneSecondLater := by
  unfold Obligations.NextSecondIsOneSecondLater
  exact fun f h => ⟨h.nextSecond, h.nextSecond_later, CalendarFields.nextSecond_last⟩

end Sys2Proof.Machine
end

section
/-! PROOFS. The calendar's requests and its second ticks, statement by statement (R94 to R104, R107, R108). -/
namespace Sys2Proof.Machine
open Sys2Proof

/-! ## SET_TIME (R99 to R101) -/

section
variable {year month day hour minute second : Byte}

/-- The fields that a SET_TIME in range carries (R99). -/
theorem readTime_eq (h : TimeInRange year month day hour minute second) :
    readTime year month day hour minute second =
      some ⟨2000 + year.toNat, month.toNat, day.toNat, hour.toNat, minute.toNat, second.toNat,
        weekdayOf (2000 + year.toNat) month.toNat day.toNat⟩ :=
  if_pos h

theorem readTime_none (h : ¬TimeInRange year month day hour minute second) :
    readTime year month day hour minute second = none :=
  if_neg h

end

/-- The minute starts that wait neither read nor write the slot of the hand-off (R164). -/
theorem State.takeWaiting_unhand (s : State) : s.unhand.takeWaiting = s.takeWaiting.unhand := by
  rw [State.unhand, State.takeWaiting_setLink, State.unhand, State.takeWaiting_link]

/-- A SET_TIME in range on a running crystal is answered with the weekday, and the calendar takes it (R99, R100). -/
theorem exec_setTime_accepted {tag year month day hour minute second hold : Byte} {s : State}
    (hhanded : s.HasHanded (.setTime tag year month day hour minute second hold))
    {f : CalendarFields} (hf : readTime year month day hour minute second = some f) {flag : Bool}
    (hflag : readFlag hold = some flag) (hrunning : s.calendar.crystal = .running) :
    exec (.setTime tag year month day hour minute second hold) s =
      .next ((s.unhand.setTime f flag).reply (okReply tag [byteOf f.weekday])) := by
  obtain ⟨_, ⟨⟩, hr⟩ := hhanded
  refine congrArg _ (takeRequest_ok hr ?_)
  simp only [hf, hflag]
  exact if_neg (by rw [State.unhand_calendar, hrunning]; exact Crystal.noConfusion)

/-- Settles O18: the operands are read before the crystal is looked at, and the hold field chooses between the two writes
(`State.setTime`). -/
theorem setTimeWritesOrRefuses : Obligations.SetTimeWritesOrRefuses := by
  unfold Obligations.SetTimeWritesOrRefuses
  intro tag year month day hour minute second hold s hhanded c inRange y f before
  have hr : s.link.handed = some ⟨tag, 0x10, [year, month, day, hour, minute, second, hold]⟩ := by
    obtain ⟨_, ⟨⟩, hr⟩ := hhanded
    exact hr
  refine ⟨fun hbad => ?badField, fun hin hflag hstopped => ?stopped, fun hin hhold hrunning => ?running,
    fun hin hhold hrunning => ?held⟩
  case badField =>
    refine congrArg _ (takeRequest_refused hr ?_)
    by_cases hin : inRange
    · have hflag : ¬hold.toNat ≤ 1 := Nat.not_le.mpr (hbad.resolve_left (not_not_intro hin))
      simp only [readFlag_none hflag, readTime_eq hin, Taken.no]
    · simp only [readTime_none hin, Taken.no]
  case stopped =>
    obtain ⟨flag, hread⟩ := exists_readFlag hflag
    refine congrArg _ (takeRequest_refused hr ?_)
    simp only [readTime_eq hin, hread]
    exact if_pos hstopped
  case running =>
    obtain rfl := hhold
    rw [exec_setTime_accepted hhanded (readTime_eq hin) (flag := false) rfl hrunning, State.setTime, State.takeWaiting_unhand]
    rfl
  case held =>
    obtain rfl := hhold
    rw [exec_setTime_accepted hhanded (readTime_eq hin) (flag := true) rfl hrunning, State.setTime, State.takeWaiting_unhand]
    rfl

/-! ## The hold and its release, SET_SYNC and GET_TIME (R102, R103, R107) -/

section
variable {tag : Byte} {s : State}

theorem exec_releaseTime_held {timer : Nat} (hhanded : s.HasHanded (.releaseTime tag)) (hheld : s.calendar.state = .held timer) :
    exec (.releaseTime tag) s = .next (s.unhand.releaseHold.reply (okReply tag [])) := by
  obtain ⟨_, ⟨⟩, hr⟩ := hhanded
  refine congrArg _ (takeRequest_ok hr ?_)
  simp only [State.unhand_calendar, hheld]

theorem exec_releaseTime_other (hhanded : s.HasHanded (.releaseTime tag)) (hother : ∀ timer, s.calendar.state ≠ .held timer) :
    exec (.releaseTime tag) s = .next (s.answered (refusal tag .wrongState)) := by
  obtain ⟨_, ⟨⟩, hr⟩ := hhanded
  refine congrArg _ (takeRequest_refused hr ?_)
  simp only [State.unhand_calendar]
  cases hstate : s.calendar.state with
  | held timer => exact absurd hstate (hother timer)
  | invalid => rfl
  | running => rfl

theorem exec_syncFallingEdge_held {timer : Nat} (hheld : s.calendar.state = .held timer) (hsync : s.calendar.sync = true) :
    exec .syncFallingEdge s = .next s.releaseHold := by
  change execSyncFallingEdge s = _
  rw [execSyncFallingEdge, hheld, hsync]

theorem exec_syncFallingEdge_other (h : s.calendar.sync = false ∨ ∀ timer, s.calendar.state ≠ .held timer) :
    exec .syncFallingEdge s = .next s := by
  change execSyncFallingEdge s = _
  unfold execSyncFallingEdge
  split
  · rename_i timer hsync hheld
    rcases h with hoff | hother
    · exact absurd (hsync.symm.trans hoff) Bool.noConfusion
    · exact absurd hheld (hother timer)
  · rfl

/-- A calendar that is INVALID or RUNNING holds nothing (R96). -/
theorem CalendarState.ne_held {c : CalendarState} (h : c = .invalid ∨ c = .running) (timer : Nat) : c ≠ .held timer := by
  rcases h with rfl | rfl <;> exact CalendarState.noConfusion

/-- SET_SYNC writes the enable that is read (R103). -/
theorem exec_setSync_read {enable : Byte} {flag : Bool} (hhanded : s.HasHanded (.setSync tag enable))
    (hread : readFlag enable = some flag) :
    exec (.setSync tag enable) s =
      .next ((s.answered (okReply tag [])).setCalendar { s.calendar with sync := flag }) := by
  obtain ⟨_, ⟨⟩, hr⟩ := hhanded
  refine congrArg _ (takeRequest_ok (t := s.unhand.setCalendar { s.calendar with sync := flag }) hr ?_)
  simp only [hread, State.unhand_calendar]

theorem exec_setSync_unread {enable : Byte} (hhanded : s.HasHanded (.setSync tag enable)) (hread : readFlag enable = none) :
    exec (.setSync tag enable) s = .next (s.answered (refusal tag .badField)) := by
  obtain ⟨_, ⟨⟩, hr⟩ := hhanded
  refine congrArg _ (takeRequest_refused hr ?_)
  simp only [hread, Taken.no]

theorem exec_getTime (hhanded : s.HasHanded (.getTime tag)) :
    exec (.getTime tag) s = .next (s.answered (okReply tag (timeBytes s.calendar))) := by
  obtain ⟨_, ⟨⟩, hr⟩ := hhanded
  refine congrArg _ (takeRequest_ok (t := s.unhand) hr ?_)
  simp only [State.unhand_calendar]

end

/-- Settles O19: a release is `State.releaseHold` of a HELD calendar, and the two requests read and write the calendar alone. -/
theorem holdIsReleasedAndTimeIsRead : Obligations.HoldIsReleasedAndTimeIsRead := by
  unfold Obligations.HoldIsReleasedAndTimeIsRead
  refine ⟨⟨fun tag s hhanded => ⟨fun timer hheld => ?_, fun hother => ?_⟩,
    fun s => ⟨fun timer hheld hsync => ?_, fun hother => ?_⟩⟩,
    fun tag enable s hhanded => ⟨?_, ?_, fun h0 h1 => ?_⟩, fun tag s hhanded => ?_⟩
  · exact exec_releaseTime_held hhanded hheld
  · exact exec_releaseTime_other hhanded (CalendarState.ne_held hother)
  · exact exec_syncFallingEdge_held hheld hsync
  · refine exec_syncFallingEdge_other ?_
    rcases hother with hstate | hstate | hoff
    · exact .inr (CalendarState.ne_held (.inl hstate))
    · exact .inr (CalendarState.ne_held (.inr hstate))
    · exact .inl hoff
  · rintro rfl
    exact exec_setSync_read hhanded rfl
  · rintro rfl
    exact exec_setSync_read hhanded rfl
  · exact exec_setSync_unread hhanded (by rw [readFlag, if_neg h0, if_neg h1])
  · intro c state
    have hstate : byteOf c.state.code = state := by
      simp only [state]
      cases c.state <;> rfl
    have hcrystal : byteOf c.crystal.code = if c.crystal = .running then 1 else 0 := by
      cases c.crystal <;> rfl
    rw [exec_getTime hhanded, timeBytes, hstate, hcrystal, flagByte]

/-! ## The second tick at the calendar (R94, R97, R104, R108) -/

section
variable {s : State}

/-- Within a minute a counted second changes the fields alone (R97). -/
theorem State.countSecond_within (h : s.calendar.fields.second < 59) :
    s.countSecond =
      s.setCalendar { s.calendar with fields := { s.calendar.fields with second := s.calendar.fields.second + 1 } } := by
  have hnotLast : ¬s.calendar.fields.isLast = true := fun hlast => by
    obtain ⟨-, -, -, -, -, hsecond⟩ := CalendarFields.isLast_iff.mp hlast
    omega
  have hsecond : ¬s.calendar.fields.nextSecond.second = 0 := by
    rw [CalendarFields.nextSecond_second, if_pos h]
    exact Nat.succ_ne_zero _
  rw [State.countSecond_eq, if_neg fun hstart => hsecond hstart.1, State.advanceCalendar, if_neg hnotLast, State.advanceFields,
    if_neg hsecond, CalendarFields.nextSecond_within h]

/-- The fields' advance at the end of a minute comes after the minute starts that wait (R97; log entry 26). -/
theorem State.advanceFields_minuteEnd (h : s.calendar.fields.second = 59) :
    s.advanceFields = s.takeWaiting.setCalendar { s.calendar with fields := s.calendar.fields.nextSecond } := by
  rw [State.advanceFields, if_pos (by rw [CalendarFields.nextSecond_second, h]; rfl)]

/-- At the end of a minute a part that listens hands over the one minute start, and a start hands over none (R97, R108). -/
theorem State.countSecond_minuteEnd (h : s.calendar.fields.second = 59) :
    s.countSecond = s.advanceCalendar.setSchedule
      { s.takeWaiting.schedule with
        minuteStarts := if s.phase = .listening then [s.calendar.fields.nextSecond.minuteStart] else [] } := by
  have hsecond : s.calendar.fields.nextSecond.second = 0 := by rw [CalendarFields.nextSecond_second, h]; rfl
  have hschedule : s.advanceCalendar.schedule = s.takeWaiting.schedule := by
    unfold State.advanceCalendar
    split <;> simp [State.advanceFields_minuteEnd h]
  have hnone : s.takeWaiting.schedule.minuteStarts = [] := s.takeWaiting_minuteStarts
  rw [State.countSecond_eq, hschedule, hnone]
  by_cases hl : s.phase = .listening
  · rw [if_pos ⟨hsecond, State.listening_iff.mpr hl⟩, if_pos hl]
    rfl
  · rw [if_neg fun hstart => hl (State.listening_iff.mp hstart.2), if_neg hl, ← hnone, ← hschedule]
    rfl

theorem exec_calendarSecondCount_running (howed : 0 < s.owed.calendar) (hstate : s.calendar.state = .running) :
    exec .calendarSecondCount s = .next (s.setOwed s.owed.lessCalendar).countSecond := by
  change execCalendarSecondCount s = _
  rw [execCalendarSecondCount, if_neg (Nat.ne_of_gt howed), hstate]

theorem exec_calendarSecondCount_invalid (howed : 0 < s.owed.calendar) (hstate : s.calendar.state = .invalid) :
    exec .calendarSecondCount s = .next (s.setOwed s.owed.lessCalendar) := by
  change execCalendarSecondCount s = _
  rw [execCalendarSecondCount, if_neg (Nat.ne_of_gt howed), hstate]

/-- An owed tick at a HELD calendar counts the hold, but not during a start (R104, R108). -/
theorem exec_holdTimerCount_held {timer : Nat} (howed : 0 < s.owed.calendar) (hheld : s.calendar.state = .held timer) :
    exec .holdTimerCount s =
      .next (if s.phase = .listening then (s.setOwed s.owed.lessCalendar).countHold timer
        else s.setOwed s.owed.lessCalendar) := by
  change execHoldTimerCount s = _
  rw [execHoldTimerCount, if_neg (Nat.ne_of_gt howed), hheld]
  simp only [State.listening_iff]
  split <;> rfl

/-- The expiry is the owed tick that brings the hold timer to 2 (R104; log entry 5). -/
theorem exec_holdExpiry_held {timer : Nat} (howed : 0 < s.owed.calendar) (hheld : s.calendar.state = .held timer) :
    exec .holdExpiry s =
      .next (if s.phase = .listening ∧ Config.holdLimit ≤ timer + 1 then (s.setOwed s.owed.lessCalendar).countHold timer
        else s) := by
  change execHoldExpiry s = _
  rw [execHoldExpiry, hheld]
  simp only [State.listening_iff, howed, true_and]
  split <;> rfl

end

/-- Settles O21: the counted second is told by whether it ends a minute (`State.countSecond_within`,
`State.countSecond_minuteEnd`), and the counted hold by whether it reaches its limit. -/
theorem secondTickAtTheCalendar : Obligations.SecondTickAtTheCalendar := by
  unfold Obligations.SecondTickAtTheCalendar
  constructor
  · intro s f taken start before advanced
    refine ⟨fun hnone => if_pos hnone, exec_calendarSecondCount_invalid, fun howed hstate hsecond => ?within,
      fun howed hstate hsecond hlast => ?minuteEnd, fun howed hstate hyear hmonth hday hhour hminute hsecond => ?wrap⟩
    case within =>
      rw [exec_calendarSecondCount_running howed hstate]
      exact congrArg _ (State.countSecond_within (s := taken) hsecond)
    case minuteEnd =>
      have hnotLast : ¬f.isLast = true := fun h => by
        obtain ⟨hyear, hmonth, hday, hhour, hminute, -⟩ := CalendarFields.isLast_iff.mp h
        exact hlast ⟨hyear, hmonth, hday, hhour, hminute⟩
      have hadvanced : taken.advanceCalendar = advanced f.nextSecond :=
        (if_neg hnotLast).trans (State.advanceFields_minuteEnd (s := taken) hsecond)
      rw [exec_calendarSecondCount_running howed hstate]
      refine congrArg _ ((State.countSecond_minuteEnd (s := taken) hsecond).trans ?_)
      rw [hadvanced]
      rfl
    case wrap =>
      intro first
      have hlast : f.isLast = true := CalendarFields.isLast_iff.mpr ⟨hyear, hmonth, hday, hhour, hminute, hsecond⟩
      have hfirst : f.nextSecond = first := CalendarFields.nextSecond_last hlast
      have hadvanced : taken.advanceCalendar = (advanced first).offer .calendarWrap 0 0 := by
        exact (if_pos hlast).trans (congrArg (State.offer · .calendarWrap 0 0)
          (hfirst ▸ State.advanceFields_minuteEnd (s := taken) hsecond))
      rw [exec_calendarSecondCount_running howed hstate]
      refine congrArg _ ((State.countSecond_minuteEnd (s := taken) hsecond).trans ?_)
      rw [hadvanced, ← hfirst]
      rfl
  · intro s timer hheld howed taken expired
    refine ⟨fun hphase htimer => ?counts, fun hphase htimer => ?expires, fun hphase => ?starting⟩
    case counts =>
      obtain rfl := htimer
      rw [exec_holdTimerCount_held howed hheld, exec_holdExpiry_held howed hheld, if_pos hphase,
        if_neg fun h => absurd h.2 (by decide)]
      exact ⟨rfl, rfl⟩
    case expires =>
      obtain rfl := htimer
      rw [exec_holdTimerCount_held howed hheld, exec_holdExpiry_held howed hheld, if_pos hphase, if_pos ⟨hphase, by decide⟩]
      exact ⟨rfl, rfl⟩
    case starting =>
      rw [exec_holdTimerCount_held howed hheld, exec_holdExpiry_held howed hheld, if_neg hphase, if_neg fun h => hphase h.1]
      exact ⟨rfl, rfl⟩

end Sys2Proof.Machine
end

section
/-! PROOFS. Every command's meaning keeps the law of the calendar alone (R96): most leave the calendar as it stands, and those of
the calendar, of the prescaler's ticks and of the starts are told one by one. -/
namespace Sys2Proof.Machine
open Sys2Proof

/-! ## What an owner makes of the calendar -/

/-- The calendar once an owner has answered: that of the state it answers with, and otherwise the one that stood (R164, R167). -/
def Taken.calendarAfter (c : Calendar) : Taken → Calendar
  | .ok _ t => t.calendar
  | .deferred t => t.calendar
  | .refused _ _ => c
  | .restart => c

@[simp] theorem Taken.calendarAfter_ok (c : Calendar) (payload : List Byte) (t : State) :
    (Taken.ok payload t).calendarAfter c = t.calendar := rfl
@[simp] theorem Taken.calendarAfter_deferred (c : Calendar) (t : State) : (Taken.deferred t).calendarAfter c = t.calendar := rfl
@[simp] theorem Taken.calendarAfter_refused (c : Calendar) (result : Result) (payload : List Byte) :
    (Taken.refused result payload).calendarAfter c = c := rfl
@[simp] theorem Taken.calendarAfter_no (c : Calendar) (result : Result) : (Taken.no result).calendarAfter c = c := rfl
@[simp] theorem Taken.calendarAfter_restart (c : Calendar) : Taken.restart.calendarAfter c = c := rfl

/-- The taking of a request leaves the calendar its owner makes (R164). -/
@[simp] theorem State.conclude_calendar (s : State) (tag : Byte) (x : Taken) :
    (s.conclude tag x).calendar = x.calendarAfter s.calendar := by
  cases x <;> simp

/-- The link's part of a request leaves the calendar: what becomes of it is the owner's, or the request goes no further. -/
theorem takeRequest_calendar (r : Request) (owner : State → Taken) (s : State) :
    (takeRequest r owner s).calendar = s.calendar ∨
      ∃ u : State, u.calendar = s.calendar ∧ (takeRequest r owner s).calendar = (owner u).calendarAfter u.calendar := by
  by_cases hr : s.link.handed = some r
  · exact .inr ⟨s.unhand, by simp, by simp [takeRequest_handed hr]⟩
  · rw [takeRequest_sent hr]
    split
    · exact .inr ⟨(s.takeBytes r.frameBytes).handOff.unhand, by simp, by simp [State.takeHanded]⟩
    · exact .inl (by simp)

/-- An owner leaves the calendar. -/
def LeavesCalendar (owner : State → Taken) : Prop := ∀ s : State, (owner s).calendarAfter s.calendar = s.calendar

/-- A meaning keeps the law of the calendar. -/
def KeepsCalendar (meaning : State → Host.Outcome State Fault Refusal) : Prop :=
  ∀ s t : State, s.calendar.Ok → meaning s = .next t → t.calendar.Ok

section
variable {r : Request} {owner : State → Taken}

theorem keepsCalendar_of_next {op : State → State} (h : ∀ s : State, s.calendar.Ok → (op s).calendar.Ok) :
    KeepsCalendar fun s => .next (op s) := by
  rintro s t hs ⟨⟩
  exact h s hs

/-- A meaning that leaves the calendar keeps its law. -/
theorem keepsCalendar_of_leaves {meaning : State → Host.Outcome State Fault Refusal}
    (h : ∀ s t : State, meaning s = .next t → t.calendar = s.calendar) : KeepsCalendar meaning :=
  fun s t hs he => by rw [h s t he]; exact hs

/-- A request keeps the law of the calendar where its owner does. -/
theorem keepsCalendar_of_owner (h : ∀ s : State, s.calendar.Ok → ((owner s).calendarAfter s.calendar).Ok) :
    KeepsCalendar fun s => .next (takeRequest r owner s) :=
  keepsCalendar_of_next fun s hs => by
    rcases takeRequest_calendar r owner s with hsame | ⟨u, hu, howner⟩
    · rw [hsame]
      exact hs
    · rw [howner]
      exact h u (by rw [hu]; exact hs)

/-- A request whose owner leaves the calendar keeps its law. -/
theorem LeavesCalendar.keeps (h : LeavesCalendar owner) : KeepsCalendar fun s => .next (takeRequest r owner s) :=
  keepsCalendar_of_owner fun s hs => by
    rw [h s]
    exact hs

end

theorem leavesCalendar_read (payload : State → List Byte) : LeavesCalendar fun s => .ok (payload s) s := fun _ => rfl

/-- A completed walk leaves the calendar, and so does an owner behind it (R125). -/
theorem LeavesCalendar.afterWalk {owner : State → Taken} (h : LeavesCalendar owner) : LeavesCalendar (afterWalk owner) :=
  fun s => by
    rw [← s.finishWalk_calendar]
    exact h s.finishWalk

/-- The draft checks leave the calendar, and so does what they let through (R4). -/
theorem leavesCalendar_withDraft (draft : Byte) {act : State → Fin 2 → DraftBody → Taken}
    (h : ∀ d body, LeavesCalendar fun s => act s d body) : LeavesCalendar fun s => s.withDraft draft (act s) := by
  intro s
  dsimp only [State.withDraft]
  split
  · rfl
  · split
    · rfl
    · rfl
    · exact h _ _ s

@[simp] theorem State.markDirty_calendar (s : State) : s.markDirty.calendar = s.calendar := rfl

/-- A new arming of an entry leaves the calendar (R116). -/
theorem leavesCalendar_rearm (slot : Byte) (arming : Arming) : LeavesCalendar fun s => s.rearm slot arming := by
  intro s
  dsimp only [State.rearm]
  split
  · rfl
  · split
    · rfl
    · split <;> rfl

/-! ## The calendar's own requests (R99 to R103) -/

theorem execSetTime_keepsCalendar (tag year month day hour minute second hold : Byte) :
    KeepsCalendar (execSetTime tag year month day hour minute second hold) :=
  keepsCalendar_of_owner fun s hs => by
    split
    · rename_i f flag htime _
      split
      · exact hs
      · rename_i hcrystal
        have hrunning := Crystal.running_of_ne hcrystal
        obtain ⟨-, hprescaler, -⟩ := hs
        cases flag
        · exact ⟨readTime_ok htime, (by decide : 0 < Config.secondCounts), hrunning⟩
        · exact ⟨readTime_ok htime, hprescaler, hrunning, by decide⟩
    · exact hs

/-- The release of a hold keeps the law of the calendar (R102). -/
theorem Calendar.Ok.releaseHold {s : State} (h : s.calendar.Ok) {timer : Nat} (hheld : s.calendar.state = .held timer) :
    s.releaseHold.calendar.Ok := by
  obtain ⟨hfields, -, hstate⟩ := h
  rw [hheld] at hstate
  exact ⟨hfields, (by decide : 0 < Config.secondCounts), hstate.1⟩

theorem execReleaseTime_keepsCalendar (tag : Byte) : KeepsCalendar (execReleaseTime tag) :=
  keepsCalendar_of_owner fun s hs => by
    split
    · exact hs.releaseHold ‹_›
    · exact hs

theorem execSetSync_keepsCalendar (tag enable : Byte) : KeepsCalendar (execSetSync tag enable) :=
  keepsCalendar_of_owner fun s hs => by
    split <;> exact hs

/-! ## The calendar's happenings and the prescaler's ticks (R92 to R104) -/

theorem execSyncFallingEdge_keepsCalendar : KeepsCalendar execSyncFallingEdge := by
  intro s t hs he
  unfold execSyncFallingEdge at he
  split at he
  · exact Host.Outcome.next.inj he ▸ hs.releaseHold ‹_›
  · exact Host.Outcome.next.inj he ▸ hs

theorem execCrystalStopped_keepsCalendar : KeepsCalendar execCrystalStopped := by
  intro s t hs he
  unfold execCrystalStopped at he
  split at he
  · obtain rfl := Host.Outcome.next.inj he
    obtain ⟨hfields, hprescaler, -⟩ := hs
    exact ⟨hfields, hprescaler, trivial⟩
  · exact Host.Outcome.next.inj he ▸ hs

/-- On a stopped crystal the calendar is INVALID (R96). -/
theorem Calendar.Ok.invalid_of_stopped {c : Calendar} (h : c.Ok) (hstopped : c.crystal = .stopped) : c.state = .invalid := by
  obtain ⟨-, -, hstate⟩ := h
  cases hc : c.state with
  | invalid => rfl
  | running => rw [hc, hstopped] at hstate; cases hstate
  | held timer => rw [hc, hstopped] at hstate; cases hstate.1

theorem execCrystalResumed_keepsCalendar : KeepsCalendar execCrystalResumed := by
  intro s t hs he
  unfold execCrystalResumed at he
  split at he
  · rename_i hstopped
    obtain rfl := Host.Outcome.next.inj he
    have hinvalid := hs.invalid_of_stopped hstopped
    obtain ⟨hfields, -, -⟩ := hs
    refine ⟨hfields, (by decide : 0 < Config.secondCounts), ?_⟩
    simp [hinvalid]
  · exact Host.Outcome.next.inj he ▸ hs

/-- The prescaler may take any count of its second (R94). -/
theorem Calendar.Ok.setPrescaler {c : Calendar} (h : c.Ok) {n : Nat} (hn : n < Config.secondCounts) :
    ({ c with prescaler := n } : Calendar).Ok :=
  let ⟨hfields, _, hstate⟩ := h
  ⟨hfields, hn, hstate⟩

theorem execSecondTick_keepsCalendar : KeepsCalendar execSecondTick := by
  intro s t hs he
  have hcount : ({ s.calendar with prescaler := 0 } : Calendar).Ok := hs.setPrescaler (by decide)
  unfold execSecondTick at he
  dsimp only at he
  split at he <;> exact Host.Outcome.next.inj he ▸ hcount

theorem execHalfSecondTick_keepsCalendar (whole : Bool) : KeepsCalendar (execHalfSecondTick whole) :=
  keepsCalendar_of_next fun s hs => by
    cases whole
    · exact hs.setPrescaler (by decide : Config.halfCounts < Config.secondCounts)
    · exact hs

theorem execCalendarSecondCount_keepsCalendar : KeepsCalendar execCalendarSecondCount := by
  intro s t hs he
  unfold execCalendarSecondCount at he
  split at he
  · exact Host.Outcome.next.inj he ▸ hs
  split at he
  · obtain rfl := Host.Outcome.next.inj he
    obtain ⟨hfields, hrest⟩ := hs
    rw [State.countSecond_calendar]
    exact ⟨hfields.nextSecond, hrest⟩
  · exact Host.Outcome.next.inj he ▸ hs
  · exact Host.Outcome.next.inj he ▸ hs

/-- A counted hold second keeps the law of the calendar (R104). -/
theorem Calendar.Ok.countHold {s : State} (h : s.calendar.Ok) {timer : Nat} (hheld : s.calendar.state = .held timer) :
    (s.countHold timer).calendar.Ok := by
  obtain ⟨hfields, hprescaler, hstate⟩ := h
  rw [hheld] at hstate
  rcases s.countHold_cases timer with ⟨hbelow, hcounted⟩ | ⟨-, hcounted⟩ <;> rw [hcounted]
  · exact ⟨hfields, hprescaler, hstate.1, hbelow⟩
  · exact ⟨hfields, hprescaler, hstate.1⟩

theorem execHoldTimerCount_keepsCalendar : KeepsCalendar execHoldTimerCount := by
  intro s t hs he
  unfold execHoldTimerCount at he
  split at he
  · exact Host.Outcome.next.inj he ▸ hs
  split at he
  · split at he
    · exact Host.Outcome.next.inj he ▸ Calendar.Ok.countHold (s := s.setOwed s.owed.lessCalendar) hs ‹_›
    · exact Host.Outcome.next.inj he ▸ hs
  · exact Host.Outcome.next.inj he ▸ hs

theorem execHoldExpiry_keepsCalendar : KeepsCalendar execHoldExpiry := by
  intro s t hs he
  unfold execHoldExpiry at he
  split at he
  · split at he
    · exact Host.Outcome.next.inj he ▸ Calendar.Ok.countHold (s := s.setOwed s.owed.lessCalendar) hs ‹_›
    · exact Host.Outcome.next.inj he ▸ hs
  · exact Host.Outcome.next.inj he ▸ hs

/-- The completion of the pending commits leaves the calendar (R14). -/
@[simp] theorem State.completeCommits_calendar (s : State) : s.completeCommits.calendar = s.calendar := by
  unfold State.completeCommits
  generalize s.store.commits = commits
  induction commits generalizing s with
  | nil => rfl
  | cons e rest ih => rw [List.foldl_cons, ih, State.completeCommit_calendar]

theorem execFrameBoundary_keepsCalendar : KeepsCalendar execFrameBoundary := by
  intro s t hs he
  have hcadence : s.keepCadence.calendar.Ok := hs.setPrescaler (Nat.mod_lt _ (by decide))
  unfold execFrameBoundary at he
  split at he
  · obtain rfl := Host.Outcome.next.inj he
    simpa using hcadence
  · exact Host.Outcome.next.inj he ▸ hcadence

/-! ## The starts (R108) -/

/-- What a start does to the live state leaves the date, the time and the state of the calendar (R108). -/
theorem Calendar.Ok.clearLive {s : State} (h : s.calendar.Ok) (phase : Phase) : (s.clearLive phase).calendar.Ok := h

/-- The instant of reset release keeps the law of the calendar (R108). -/
theorem Calendar.Ok.releaseAtStart {s : State} (h : s.calendar.Ok) : s.releaseAtStart.calendar.Ok := by
  unfold State.releaseAtStart
  split
  · exact h.releaseHold ‹_›
  · exact h

theorem execPowerOn_keepsCalendar (baudHigh resetnHigh : Bool) : KeepsCalendar (execPowerOn baudHigh resetnHigh) := by
  intro s t _ he
  obtain rfl := Host.Outcome.next.inj he
  exact resetMeetsTheLaw.calendar

theorem execResetnFall_keepsCalendar : KeepsCalendar execResetnFall := by
  intro s t hs he
  unfold execResetnFall at he
  split at he
  · exact Host.Outcome.next.inj he ▸ hs
  · exact Host.Outcome.next.inj he ▸ hs.clearLive _

theorem execResetnRelease_keepsCalendar : KeepsCalendar execResetnRelease := by
  intro s t hs he
  unfold execResetnRelease at he
  split at he
  · exact Host.Outcome.next.inj he ▸ hs.releaseAtStart
  · exact Host.Outcome.next.inj he ▸ hs

theorem execWarmStartByRestart_keepsCalendar : KeepsCalendar execWarmStartByRestart := by
  intro s t hs he
  unfold execWarmStartByRestart at he
  split at he
  · exact Host.Outcome.next.inj he ▸ (hs.clearLive _).releaseAtStart
  · exact Host.Outcome.next.inj he ▸ hs

/-- The start-up restore leaves the calendar (R142). -/
@[simp] theorem State.startupRestore_calendar (s : State) : s.startupRestore.calendar = s.calendar := by
  unfold State.startupRestore
  dsimp only
  split <;> rfl

theorem execStartupComplete_keepsCalendar : KeepsCalendar execStartupComplete :=
  keepsCalendar_of_leaves fun s t he => by
    unfold execStartupComplete at he
    split at he
    · obtain rfl := Host.Outcome.next.inj he
      simp [State.queueStarted, State.applyStartup]
    · exact Host.Outcome.next.inj he ▸ rfl

/-! ## The happenings that leave the calendar -/

theorem execReplyTransmitted_keepsCalendar : KeepsCalendar execReplyTransmitted :=
  keepsCalendar_of_leaves fun s t he => by
    unfold execReplyTransmitted at he
    split at he <;> exact Host.Outcome.next.inj he ▸ rfl

@[simp] theorem State.abandonDraft_calendar (s : State) (d : Fin 2) : (s.abandonDraft d).calendar = s.calendar := by
  unfold State.abandonDraft
  split <;> rfl

/-- The installation of a restored image leaves the calendar (R140). -/
@[simp] theorem State.installRestored_calendar (s : State) (image : Collections) :
    (s.installRestored image).calendar = s.calendar := by
  simp [State.installRestored, State.install]

theorem execSaveEnd_keepsCalendar (verified : Bool) : KeepsCalendar (execSaveEnd verified) :=
  keepsCalendar_of_leaves fun s t he => by
    unfold execSaveEnd at he
    split at he
    · split at he <;> exact Host.Outcome.next.inj he ▸ rfl
    · exact Host.Outcome.next.inj he ▸ rfl

theorem execRestoreComplete_keepsCalendar : KeepsCalendar execRestoreComplete :=
  keepsCalendar_of_leaves fun s t he => by
    unfold execRestoreComplete at he
    split at he
    · dsimp only at he
      split at he
      · obtain rfl := Host.Outcome.next.inj he
        simp
      · exact Host.Outcome.next.inj he ▸ rfl
    · exact Host.Outcome.next.inj he ▸ rfl

theorem execBankDamaged_keepsCalendar (bank : BankId) (sequence : Quad) : KeepsCalendar (execBankDamaged bank sequence) :=
  keepsCalendar_of_leaves fun s t he => by
    unfold execBankDamaged at he
    split at he <;> exact Host.Outcome.next.inj he ▸ rfl

/-- A meaning that chooses between two operations leaves the calendar where both do. -/
theorem keepsCalendar_of_ite {due : State → Prop} [∀ s, Decidable (due s)] {op other : State → State}
    (hop : ∀ s : State, (op s).calendar = s.calendar) (hother : ∀ s : State, (other s).calendar = s.calendar) :
    KeepsCalendar fun s => if due s then .next (op s) else .next (other s) :=
  keepsCalendar_of_leaves fun s t he => by
    split at he
    · exact Host.Outcome.next.inj he ▸ hop s
    · exact Host.Outcome.next.inj he ▸ hother s

theorem execByteReceived_keepsCalendar (byte : Byte) (stopBit : Bool) : KeepsCalendar (execByteReceived byte stopBit) :=
  keepsCalendar_of_next fun s hs => by
    split
    · rw [State.takeByte_calendar]
      exact hs
    · exact hs

theorem execGapTimerExpiry_keepsCalendar : KeepsCalendar execGapTimerExpiry :=
  keepsCalendar_of_next fun s hs => by
    split <;> exact hs

theorem execRotationAdvance_keepsCalendar : KeepsCalendar execRotationAdvance :=
  keepsCalendar_of_leaves fun s t he => by
    unfold execRotationAdvance at he
    split at he
    · split at he
      · exact Host.Outcome.next.inj he ▸ State.countDwell_calendar _
      · exact Host.Outcome.next.inj he ▸ rfl
    · exact Host.Outcome.next.inj he ▸ rfl

/-- A hand-off of the schedule leaves the calendar (R119). -/
theorem keepsCalendar_handDue (isIt : Firing → Bool) : KeepsCalendar fun s => .next (s.handDue isIt) :=
  keepsCalendar_of_next fun s hs => by
    rw [State.handDue_calendar]
    exact hs

/-! ## The requests that leave the calendar -/

theorem execShowNow_keepsCalendar (tag page priority : Byte) (duration : Half) :
    KeepsCalendar (execShowNow tag page priority duration) :=
  LeavesCalendar.keeps fun s => by
    split
    · rename_i id p _ _
      split
      · rfl
      · have hadmitted := s.admit_calendar ⟨.host id, id, p, readDuration duration.toNat⟩
        split
        · rfl
        · rename_i hadmit
          rw [hadmit] at hadmitted
          simpa using hadmitted
    · rfl

theorem execSetList_keepsCalendar (tag list wrap : Byte) (steps : List (Byte × Byte)) :
    KeepsCalendar (execSetList tag list wrap steps) :=
  LeavesCalendar.keeps fun s => by
    split
    · split
      · rfl
      · dsimp only [Taken.calendarAfter_ok]
        split <;> simp
    · rfl

/-! ## Every step -/

/-- Every command's meaning keeps the law of the calendar. -/
theorem exec_keepsCalendar (c : Instr) : KeepsCalendar (exec c) := by
  cases c with
  | ping | identify | status | getTime | getDisplay | listPages | listOverrides | archiveInfo =>
    exact (leavesCalendar_read _).keeps
  | restart | setReportMask | pauseRotation | resumeRotation => exact LeavesCalendar.keeps fun s => rfl
  | fetchReports | setAttn | setGlass | setDisplay | setCell | clearCell | getCell | setValue | addValue | getValue | openDraft
  | readPage | getList | restore | setStartup =>
    exact LeavesCalendar.keeps fun s => by
      repeat' split
      all_goals rfl
  | deletePage | selectList | clearOverride | clearBelow =>
    exact LeavesCalendar.keeps fun s => by
      repeat' split
      all_goals simp
  | writeDots | writeBlink | bindField | unbindField | commit | abandon =>
    refine (leavesCalendar_withDraft _ fun d body s => ?_).keeps
    dsimp only
    repeat' split
    all_goals rfl
  | setEntry | clearEntry | getEntry | save =>
    refine (LeavesCalendar.afterWalk fun s => ?_).keeps
    repeat' split
    all_goals rfl
  | armEntry | disarmEntry => exact (leavesCalendar_rearm _ _).afterWalk.keeps
  | setList => exact execSetList_keepsCalendar _ _ _ _
  | showNow => exact execShowNow_keepsCalendar _ _ _ _
  | setTime => exact execSetTime_keepsCalendar _ _ _ _ _ _ _ _
  | releaseTime => exact execReleaseTime_keepsCalendar _
  | setSync => exact execSetSync_keepsCalendar _ _
  | byteReceived => exact execByteReceived_keepsCalendar _ _
  | gapTimerExpiry => exact execGapTimerExpiry_keepsCalendar
  | requestHandoff => exact keepsCalendar_of_next fun s hs => by rwa [State.handOff_calendar]
  | replyTransmitted => exact execReplyTransmitted_keepsCalendar
  | warmStartByRestart => exact execWarmStartByRestart_keepsCalendar
  | powerOn => exact execPowerOn_keepsCalendar _ _
  | resetnFall => exact execResetnFall_keepsCalendar
  | resetnRelease => exact execResetnRelease_keepsCalendar
  | startupComplete => exact execStartupComplete_keepsCalendar
  | syncFallingEdge => exact execSyncFallingEdge_keepsCalendar
  | crystalStopped => exact execCrystalStopped_keepsCalendar
  | crystalResumed => exact execCrystalResumed_keepsCalendar
  | secondTick => exact execSecondTick_keepsCalendar
  | halfSecondTick => exact execHalfSecondTick_keepsCalendar _
  | calendarSecondCount => exact execCalendarSecondCount_keepsCalendar
  | minuteStart => exact keepsCalendar_of_next fun s hs => by rwa [State.takeMinute_calendar]
  | scheduleShow | scheduleSelect | scheduleClearBelow | scheduleDisplay => exact keepsCalendar_handDue _
  | rotationAdvance => exact execRotationAdvance_keepsCalendar
  | dwellCount => exact keepsCalendar_of_ite (fun _ => rfl) fun _ => State.countDwell_calendar _
  | overrideCountdown => exact keepsCalendar_of_ite (fun _ => rfl) fun _ => State.countOverrides_calendar _
  | overrideExpiry => exact keepsCalendar_of_ite (fun _ => State.countOverrides_calendar _) fun _ => rfl
  | draftIdleCount => exact keepsCalendar_of_ite (fun _ => rfl) fun _ => State.countDrafts_calendar _
  | draftExpiry => exact keepsCalendar_of_ite (fun _ => State.countDrafts_calendar _) fun _ => rfl
  | holdTimerCount => exact execHoldTimerCount_keepsCalendar
  | holdExpiry => exact execHoldExpiry_keepsCalendar
  | frameBoundary => exact execFrameBoundary_keepsCalendar
  | saveEnd => exact execSaveEnd_keepsCalendar _
  | restoreComplete => exact execRestoreComplete_keepsCalendar
  | bankDamaged => exact execBankDamaged_keepsCalendar _ _

/-- Settles O6: a step runs the meaning of the front command, and each meaning keeps the law of the calendar
(`exec_keepsCalendar`). -/
theorem stepKeepsCalendarLaw : Obligations.StepKeepsCalendarLaw := by
  unfold Obligations.StepKeepsCalendarLaw
  intro s t hs he
  unfold step at he
  split at he
  · exact Host.Outcome.next.inj he ▸ hs
  · exact exec_keepsCalendar _ _ t (by exact hs) he

end Sys2Proof.Machine
end

section
/-! PROOFS. The schedule table's requests: where they stand to an unfinished walk (R125, R136, R167), the entry that SET_ENTRY
carries (R110 to R114), and what each request does to its slot (R115 to R117). -/
namespace Sys2Proof.Machine
open Sys2Proof

/-! ## Requests that come after the walk (R125, R136, R167) -/

/-- What the schedule's and SAVE's owners answer: OK, a refusal without a payload, or a deferral that leaves the link (R165, R167,
R174). -/
def Taken.Settles (l : Link) : Taken → Prop
  | .ok _ _ => True
  | .refused result payload => result ≠ .ok ∧ payload = []
  | .deferred t => t.link = l
  | .restart => False

theorem State.finishWalk_unhand (s : State) : s.unhand.finishWalk = s.finishWalk.unhand := by
  rw [State.unhand, State.finishWalk_setLink, State.unhand, State.finishWalk_link]

/-- A request behind the walk is concluded by what its owner makes of the completed walk (R125). -/
theorem takeRequest_afterWalk {r : Request} {s : State} (hr : s.link.handed = some r) (owner : State → Taken) :
    takeRequest r (afterWalk owner) s = s.unhand.conclude r.tag (owner s.finishWalk.unhand) := by
  rw [takeRequest_handed hr, afterWalk, State.finishWalk_unhand]

/-- On the completed walk there is none left to complete. -/
theorem takeRequest_finishWalk {r : Request} {s : State} (hr : s.link.handed = some r) (owner : State → Taken) :
    takeRequest r (afterWalk owner) s.finishWalk = s.finishWalk.unhand.conclude r.tag (owner s.finishWalk.unhand) := by
  rw [takeRequest_afterWalk (by rw [State.finishWalk_link, hr]), State.finishWalk_of_walk_nil s.finishWalk_walk]

/-- A conclusion that is a refusal's answer comes from that refusal. -/
theorem Taken.Settles.eq_no {s : State} {x : Taken} (hx : x.Settles s.unhand.link) {tag : Byte} {result : Result}
    (hresult : result ≠ .ok) (h : s.unhand.conclude tag x = s.answered (refusal tag result)) : x = .no result := by
  have hreplies : (s.unhand.conclude tag x).link.replies = s.link.replies ++ [refusal tag result] :=
    congrArg (fun t : State => t.link.replies) h
  cases x with
  | ok payload t =>
    have hlast := List.append_inj_right' hreplies rfl
    simp only [refusal, List.cons.injEq, Reply.mk.injEq] at hlast
    exact absurd hlast.1.2.1.symm hresult
  | refused other payload =>
    obtain ⟨-, rfl⟩ := hx
    have hlast := List.append_cancel_left hreplies
    simp only [refusal, List.cons.injEq, Reply.mk.injEq] at hlast
    exact congrArg Taken.no hlast.1.2.1
  | deferred t =>
    have hsame : t.link.replies = s.unhand.link.replies := congrArg Link.replies hx
    exact absurd (hsame.symm.trans hreplies).symm (by simp)
  | restart => exact hx.elim

section
variable {r : Request} {owner : State → Taken} {s : State} (hr : s.link.handed = some r)
  (howner : ∀ t : State, (owner t).Settles t.link)
include hr howner

/-- What is refused on the completed walk is refused with the walk left as it stands (R167, log entry 9). -/
theorem takeRequest_refused_of_finishWalk {result : Result} (hresult : result ≠ .ok)
    (h : takeRequest r (afterWalk owner) s.finishWalk = s.finishWalk.answered (refusal r.tag result)) :
    takeRequest r (afterWalk owner) s = s.answered (refusal r.tag result) := by
  rw [takeRequest_finishWalk hr] at h
  rw [takeRequest_afterWalk hr, (howner s.finishWalk.unhand).eq_no hresult h]
  rfl

/-- What is not refused on the completed walk acts on it (R125, R136). -/
theorem takeRequest_accepted_of_finishWalk
    (h : ∀ result, ¬(result ≠ .ok ∧
      takeRequest r (afterWalk owner) s.finishWalk = s.finishWalk.answered (refusal r.tag result))) :
    takeRequest r (afterWalk owner) s = takeRequest r (afterWalk owner) s.finishWalk := by
  have hsettles := howner s.finishWalk.unhand
  rw [takeRequest_finishWalk hr] at h ⊢
  rw [takeRequest_afterWalk hr]
  cases hx : owner s.finishWalk.unhand with
  | ok payload t => rfl
  | refused result payload =>
    rw [hx] at h hsettles
    obtain ⟨hresult, rfl⟩ := hsettles
    exact absurd ⟨hresult, rfl⟩ (h result)
  | deferred t => rfl
  | restart =>
    rw [hx] at hsettles
    exact hsettles.elim

end

/-! ## The owners of the slot requests and of SAVE (R112 to R117, R134) -/

/-- The checks the writes of a slot share: the payload is read, and then the archive must not be busy (R112, R115, R116). -/
def State.slotGate {α : Type} (s : State) (payload : Option α) (go : α → Taken) : Taken :=
  match payload with
  | none => .no .badField
  | some x => if s.archiveBusy then .no .archiveBusy else go x

/-- The slot and the entry of a SET_ENTRY, where both are in range (R112, R113). -/
def readSlotEntry (slot minute hour day weekdays month flags action arg1 arg2 : Byte) (duration : Half) :
    Option (Fin 32 × Entry) :=
  (readIndex 32 slot).bind fun i =>
    (readEntry minute hour day weekdays month flags action arg1 arg2 duration).map fun e => (i, e)

/-- The entry of a slot takes an arming, where the slot holds one (R116). -/
def State.rearmSlot (s : State) (arming : Arming) (i : Fin 32) : Taken :=
  match s.schedule.slots[i] with
  | .free => .no .noSuch
  | .holds _ e => .ok [] (s.putSlot i (.holds arming e))

theorem exec_setEntry (tag slot minute hour day weekdays month flags action arg1 arg2 : Byte) (duration : Half) (s : State) :
    exec (.setEntry tag slot minute hour day weekdays month flags action arg1 arg2 duration) s =
      .next (takeRequest
        ⟨tag, 0x50, [slot, minute, hour, day, weekdays, month, flags, action, arg1, arg2] ++ halfBytes duration⟩
        (afterWalk fun t => t.slotGate (readSlotEntry slot minute hour day weekdays month flags action arg1 arg2 duration)
          fun x => .ok [] (t.putSlot x.1 (.holds .armed x.2))) s) := by
  refine congrArg (fun owner => Host.Outcome.next (takeRequest _ (afterWalk owner) s)) (funext fun t => ?_)
  unfold readSlotEntry
  cases readIndex 32 slot with
  | none => rfl
  | some i => cases readEntry minute hour day weekdays month flags action arg1 arg2 duration <;> rfl

theorem exec_clearEntry (tag slot : Byte) (s : State) :
    exec (.clearEntry tag slot) s = .next (takeRequest ⟨tag, 0x51, [slot]⟩
      (afterWalk fun t => t.slotGate (readIndex 32 slot) fun i => .ok [] (t.putSlot i .free)) s) := by
  refine congrArg (fun owner => Host.Outcome.next (takeRequest _ (afterWalk owner) s)) (funext fun t => ?_)
  cases readIndex 32 slot <;> rfl

theorem State.rearm_eq (s : State) (slot : Byte) (arming : Arming) :
    s.rearm slot arming = s.slotGate (readIndex 32 slot) (s.rearmSlot arming) := by
  unfold State.rearm
  cases readIndex 32 slot <;> rfl

theorem exec_armEntry (tag slot : Byte) (s : State) :
    exec (.armEntry tag slot) s = .next (takeRequest ⟨tag, 0x52, [slot]⟩
      (afterWalk fun t => t.slotGate (readIndex 32 slot) (t.rearmSlot .armed)) s) :=
  congrArg (fun owner => Host.Outcome.next (takeRequest _ (afterWalk owner) s)) (funext fun t => t.rearm_eq slot .armed)

theorem exec_disarmEntry (tag slot : Byte) (s : State) :
    exec (.disarmEntry tag slot) s = .next (takeRequest ⟨tag, 0x53, [slot]⟩
      (afterWalk fun t => t.slotGate (readIndex 32 slot) (t.rearmSlot .disarmed)) s) :=
  congrArg (fun owner => Host.Outcome.next (takeRequest _ (afterWalk owner) s)) (funext fun t => t.rearm_eq slot .disarmed)

/-- What GET_ENTRY answers (R117). -/
def State.readSlot (s : State) (slot : Byte) : Taken :=
  match readIndex 32 slot with
  | some i => .ok (slotBytes s.schedule.slots[i]) s
  | none => .no .badField

theorem exec_getEntry (tag slot : Byte) (s : State) :
    exec (.getEntry tag slot) s =
      .next (takeRequest ⟨tag, 0x54, [slot]⟩ (afterWalk fun t => t.readSlot slot) s) := rfl

section
variable {s : State}

theorem Taken.Settles.no {l : Link} {result : Result} (h : result ≠ .ok) : (Taken.no result).Settles l := ⟨h, rfl⟩

theorem State.slotGate_settles {α : Type} {payload : Option α} {go : α → Taken} (h : ∀ x, (go x).Settles s.link) :
    (s.slotGate payload go).Settles s.link := by
  unfold State.slotGate
  split
  · exact .no (by decide)
  · split
    · exact .no (by decide)
    · exact h _

theorem State.rearmSlot_settles (arming : Arming) (i : Fin 32) : (s.rearmSlot arming i).Settles s.link := by
  unfold State.rearmSlot
  split
  · exact .no (by decide)
  · trivial

theorem State.readSlot_settles (slot : Byte) : (s.readSlot slot).Settles s.link := by
  unfold State.readSlot
  split
  · trivial
  · exact .no (by decide)

theorem State.archiveGate_settles {go : Taken} (h : go.Settles s.link) : (s.archiveGate go).Settles s.link := by
  unfold State.archiveGate
  split
  · exact .no (by decide)
  · split
    · exact .no (by decide)
    · exact h

theorem State.takeSave_settles (tag : Byte) : (s.takeSave tag).Settles s.link := by
  by_cases hlast : ∃ bank, s.archive.current = some (bank, Config.maxSequence)
  · rw [State.takeSave_noRoom hlast]
    exact .no (by decide)
  · rw [State.takeSave_begins hlast]
    rfl

end

/-- A slot request and SAVE go to their owner behind the walk, and it settles them (R125, R136). -/
theorem slotRequest_afterWalk {tag slot minute hour day weekdays month flags action arg1 arg2 : Byte} {duration : Half} {c : Instr}
    (hc : c ∈ [Instr.setEntry tag slot minute hour day weekdays month flags action arg1 arg2 duration, .clearEntry tag slot,
      .armEntry tag slot, .disarmEntry tag slot, .getEntry tag slot, .save tag])
    {r : Request} (hr : c.toRequest = some r) :
    r.tag = tag ∧ ∃ owner : State → Taken, (∀ s, exec c s = .next (takeRequest r (afterWalk owner) s)) ∧
      ∀ t : State, (owner t).Settles t.link := by
  simp only [List.mem_cons, List.not_mem_nil, or_false] at hc
  rcases hc with rfl | rfl | rfl | rfl | rfl | rfl <;> cases hr
  · exact ⟨rfl, _, fun _ => exec_setEntry .., fun _ => State.slotGate_settles fun _ => trivial⟩
  · exact ⟨rfl, _, fun _ => exec_clearEntry .., fun _ => State.slotGate_settles fun _ => trivial⟩
  · exact ⟨rfl, _, fun _ => exec_armEntry .., fun _ => State.slotGate_settles (State.rearmSlot_settles _)⟩
  · exact ⟨rfl, _, fun _ => exec_disarmEntry .., fun _ => State.slotGate_settles (State.rearmSlot_settles _)⟩
  · exact ⟨rfl, _, fun _ => exec_getEntry .., fun _ => State.readSlot_settles _⟩
  · exact ⟨rfl, _, fun _ => exec_save .., fun _ => State.archiveGate_settles (State.takeSave_settles _)⟩

/-- Settles O48: each of the requests goes to its owner behind the walk (`slotRequest_afterWalk`), and a refusal on the completed
walk is told from an acceptance by the reply that stands last (`Taken.Settles.eq_no`). -/
theorem slotRequestsFollowTheWalk : Obligations.SlotRequestsFollowTheWalk := by
  unfold Obligations.SlotRequestsFollowTheWalk
  rintro tag slot minute hour day weekdays month flags action arg1 arg2 duration s c hc ⟨r, htoRequest, hr⟩
  obtain ⟨rfl, owner, hexec, howner⟩ := slotRequest_afterWalk hc htoRequest
  simp only [hexec, Host.Outcome.next.injEq]
  refine ⟨fun result ⟨hresult, h⟩ => takeRequest_refused_of_finishWalk hr howner hresult h,
    takeRequest_accepted_of_finishWalk hr howner, s.finishWalk_walk, s.finishWalk_minuteStarts, s.finishWalk_link,
    State.finishWalk_of_walk_nil, fun hwalk => ?_⟩
  exact congrArg (fun t : State => Host.Outcome.next t.finishWalk) (State.beginWalk_of_walk hwalk)

/-! ## What a slot request does to its slot (R115 to R117) -/

section
variable {α : Type} {r : Request} {payload : Option α} {go : State → α → Taken} {s : State}
  (hr : s.link.handed = some r) (hwalk : s.schedule.walk = [])
include hr hwalk

/-- A payload out of range is refused first. -/
theorem takeRequest_slotGate_unread (h : payload = none) :
    takeRequest r (afterWalk fun t => t.slotGate payload (go t)) s = s.answered (refusal r.tag .badField) :=
  takeRequest_refused hr ((afterWalk_unhand hwalk _).trans (by rw [h]; rfl))

/-- Behind the payload a busy archive is refused (R132). -/
theorem takeRequest_slotGate_busy {x : α} (h : payload = some x) (hop : s.archive.op ≠ .none) :
    takeRequest r (afterWalk fun t => t.slotGate payload (go t)) s = s.answered (refusal r.tag .archiveBusy) := by
  refine takeRequest_refused hr ((afterWalk_unhand hwalk _).trans ?_)
  rw [h]
  exact if_pos (State.archiveBusy_iff.mpr hop)

/-- Behind both checks the request goes to its slot. -/
theorem takeRequest_slotGate_idle {x : α} (h : payload = some x) (hop : s.archive.op = .none) :
    takeRequest r (afterWalk fun t => t.slotGate payload (go t)) s = s.unhand.conclude r.tag (go s.unhand x) := by
  rw [takeRequest_handed hr, afterWalk_unhand hwalk, h]
  exact congrArg (s.unhand.conclude r.tag) (if_neg fun hbusy => State.archiveBusy_iff.mp hbusy hop)

end

/-- ARM_ENTRY and DISARM_ENTRY go to the owner that gives the slot's entry an arming (R116). -/
theorem exec_rearm {tag slot : Byte} {s : State} {c : Instr} {new : Arming}
    (hc : c = .armEntry tag slot ∧ new = .armed ∨ c = .disarmEntry tag slot ∧ new = .disarmed) (hhanded : s.HasHanded c) :
    ∃ r : Request, r.tag = tag ∧ s.link.handed = some r ∧
      exec c s = .next (takeRequest r (afterWalk fun t => t.slotGate (readIndex 32 slot) (t.rearmSlot new)) s) := by
  obtain ⟨r, htoRequest, hr⟩ := hhanded
  rcases hc with ⟨rfl, rfl⟩ | ⟨rfl, rfl⟩ <;> cases htoRequest
  · exact ⟨_, rfl, hr, exec_armEntry ..⟩
  · exact ⟨_, rfl, hr, exec_disarmEntry ..⟩

section
variable {s : State} {i : Fin 32} (new : Arming)

theorem State.rearmSlot_free (h : s.schedule.slots[i] = .free) : s.rearmSlot new i = .no .noSuch := by
  rw [State.rearmSlot, h]

theorem State.rearmSlot_holds {old : Arming} {e : Entry} (h : s.schedule.slots[i] = .holds old e) :
    s.rearmSlot new i = .ok [] (s.putSlot i (.holds new e)) := by
  rw [State.rearmSlot, h]

end

/-- A number below the bound is read. -/
theorem exists_readIndex {bound : Nat} {b : Byte} (h : b.toNat < bound) : ∃ i, readIndex bound b = some i :=
  ⟨⟨b.toNat, h⟩, readIndex_eq rfl⟩

/-- Settles O50: the slot number and the archive are checked first (`State.slotGate`), and then the request goes by what the slot
holds. -/
theorem slotRequestsChangeTheirSlot : Obligations.SlotRequestsChangeTheirSlot := by
  unfold Obligations.SlotRequestsChangeTheirSlot
  intro tag slot s hwalk took
  have hread (hslot : slot.toNat ≤ 31) : ∃ i, readIndex 32 slot = some i := exists_readIndex (Nat.lt_succ_of_le hslot)
  refine ⟨?clear, fun c new hc hhanded => ?rearm, ?get⟩
  case clear =>
    rintro ⟨_, ⟨⟩, hr⟩
    rw [exec_clearEntry]
    refine ⟨fun hslot => congrArg _ (takeRequest_slotGate_unread hr hwalk (readIndex_none hslot)), fun hslot hop => ?_,
      fun i hi hop => congrArg _ (takeRequest_slotGate_idle hr hwalk (readIndex_eq hi) hop)⟩
    obtain ⟨i, hi⟩ := hread hslot
    exact congrArg _ (takeRequest_slotGate_busy hr hwalk hi hop)
  case rearm =>
    obtain ⟨r, rfl, hr, hexec⟩ := exec_rearm hc hhanded
    rw [hexec]
    refine ⟨fun hslot => congrArg _ (takeRequest_slotGate_unread hr hwalk (readIndex_none hslot)), fun hslot hop => ?_,
      fun i hi hop hfree => ?_, fun i arming e hi hop hholds => ?_⟩
    · obtain ⟨i, hi⟩ := hread hslot
      exact congrArg _ (takeRequest_slotGate_busy hr hwalk hi hop)
    · rw [takeRequest_slotGate_idle hr hwalk (readIndex_eq hi) hop, State.rearmSlot_free (s := s.unhand) new hfree]
      rfl
    · rw [takeRequest_slotGate_idle hr hwalk (readIndex_eq hi) hop, State.rearmSlot_holds (s := s.unhand) new hholds]
      rfl
  case get =>
    rintro ⟨_, ⟨⟩, hr⟩
    rw [exec_getEntry]
    refine ⟨fun hslot => congrArg _ (takeRequest_refused hr ((afterWalk_unhand hwalk _).trans ?_)),
      fun i hi => congrArg _ (takeRequest_ok hr (t := s.unhand) ((afterWalk_unhand hwalk _).trans ?_))⟩
    · simp only [State.readSlot, readIndex_none (bound := 32) hslot, Taken.no]
    · simp only [State.readSlot, readIndex_eq hi]
      rfl

end Sys2Proof.Machine
end

section
/-! PROOFS. The entry that SET_ENTRY carries is read exactly where its parts are in range, and it reads back byte for byte (R110 to
R114, R176). -/
namespace Sys2Proof.Machine
open Sys2Proof

/-! ## The pattern (R110, R112, R113) -/

/-- A pattern part of one byte is absent or in its range (R112). -/
def PartInRange (lo hi : Nat) (b : Byte) : Prop := b = 0xFF ∨ lo ≤ b.toNat ∧ b.toNat ≤ hi

/-- The pattern part that a byte in range stands for (R112). -/
def partOf (b : Byte) : Option Nat := if b = 0xFF then none else some b.toNat

theorem partOf_absent {b : Byte} (h : b = 0xFF) : partOf b = none := if_pos h

theorem partOf_present {b : Byte} (h : b ≠ 0xFF) : partOf b = some b.toNat := if_neg h

theorem byteOf_toNat (b : Byte) : byteOf b.toNat = b := BitVec.eq_of_toNat_eq (by simp [byteOf])

theorem partByte_partOf (b : Byte) : partByte (partOf b) = b := by
  by_cases h : b = 0xFF
  · rw [partOf_absent h, h]
    rfl
  · rw [partOf_present h]
    exact byteOf_toNat b

theorem readPart_eq_some_iff {lo hi : Nat} {b : Byte} {part : Option Nat} :
    readPart lo hi b = some part ↔ PartInRange lo hi b ∧ part = partOf b := by
  unfold readPart PartInRange
  by_cases habsent : b = 0xFF
  · rw [if_pos habsent, partOf_absent habsent, Option.some.injEq, eq_comm]
    exact (and_iff_right (.inl habsent)).symm
  · rw [if_neg habsent, partOf_present habsent]
    by_cases hrange : lo ≤ b.toNat ∧ b.toNat ≤ hi
    · rw [if_pos hrange, Option.some.injEq, eq_comm]
      exact (and_iff_right (.inr hrange)).symm
    · rw [if_neg hrange]
      exact iff_of_false (fun h => nomatch h) fun h => not_or_intro habsent hrange h.1

/-- A weekday set without its eighth bit is the byte it came in (R176). -/
theorem weekdays_roundtrip {b : Byte} (h : b.getLsbD 7 = false) : (b.extractLsb' 0 7).zeroExtend 8 = b := by
  revert b
  decide

theorem weekdays_inRange_iff {b : Byte} : b.getLsbD 7 = false ↔ b.toNat < 128 := by
  revert b
  decide

/-- The day part that a day byte and a weekday set in range stand for (R112). -/
def dayPartOf (day weekdays : Byte) : DayPart :=
  if day = 0xFF then if weekdays = 0 then .any else .weekdays (weekdays.extractLsb' 0 7) else .dayOfMonth day.toNat

theorem dayPartOf_any {day : Byte} (h : day = 0xFF) : dayPartOf day 0 = .any := (if_pos h).trans (if_pos rfl)

theorem dayPartOf_weekdays {day weekdays : Byte} (h : day = 0xFF) (hset : weekdays ≠ 0) :
    dayPartOf day weekdays = .weekdays (weekdays.extractLsb' 0 7) := (if_pos h).trans (if_neg hset)

theorem dayPartOf_dayOfMonth {day weekdays : Byte} (h : day ≠ 0xFF) : dayPartOf day weekdays = .dayOfMonth day.toNat := if_neg h

/-- A day byte and a weekday set are in range, and at most one of them is given (R112, R176). -/
def DayInRange (day weekdays : Byte) : Prop :=
  PartInRange 1 31 day ∧ weekdays.toNat < 128 ∧ (day ≠ 0xFF → weekdays = 0)

/-- A day part in range is read (R112). -/
theorem DayInRange.read {day weekdays : Byte} (h : DayInRange day weekdays) :
    readDayPart day weekdays = some (dayPartOf day weekdays) := by
  obtain ⟨hday, hset, hone⟩ := h
  have htop : ¬weekdays.getLsbD 7 = true := Bool.eq_false_iff.mp (weekdays_inRange_iff.mpr hset)
  simp only [readDayPart, readPart_eq_some_iff.mpr ⟨hday, rfl⟩, if_neg htop]
  by_cases habsent : day = 0xFF
  · rw [partOf_absent habsent]
    by_cases hempty : weekdays = 0
    · rw [hempty, dayPartOf_any habsent]
      rfl
    · rw [decide_eq_false hempty, dayPartOf_weekdays habsent hempty]
  · rw [partOf_present habsent, decide_eq_true (hone habsent), dayPartOf_dayOfMonth habsent]

/-- A day part is read only in range (R112). -/
theorem readDayPart_inRange {day weekdays : Byte} {d : DayPart} (h : readDayPart day weekdays = some d) :
    DayInRange day weekdays := by
  unfold readDayPart at h
  split at h
  · cases h
  · rename_i part hpart
    obtain ⟨hday, rfl⟩ := readPart_eq_some_iff.mp hpart
    split at h
    · cases h
    · rename_i htop
      refine ⟨hday, weekdays_inRange_iff.mp (Bool.eq_false_iff.mpr htop), fun hgiven => ?_⟩
      by_contra hset
      rw [partOf_present hgiven, decide_eq_false hset] at h
      cases h

/-- A day part reads back byte for byte (R114). -/
theorem DayInRange.dayBytes_eq {day weekdays : Byte} (h : DayInRange day weekdays) :
    dayBytes (dayPartOf day weekdays) = [day, weekdays] := by
  obtain ⟨-, hset, hone⟩ := h
  by_cases habsent : day = 0xFF
  · by_cases hempty : weekdays = 0
    · rw [hempty, dayPartOf_any habsent, habsent]
      rfl
    · rw [dayPartOf_weekdays habsent hempty, dayBytes, weekdays_roundtrip (weekdays_inRange_iff.mpr hset), habsent]
  · rw [dayPartOf_dayOfMonth habsent, hone habsent, dayBytes, byteOf_toNat]

/-- The greatest length each month ever has (R113). -/
def longestMonths : List Nat := [31, 29, 31, 30, 31, 30, 31, 31, 30, 31, 30, 31]

theorem longestMonth_eq {month : Nat} (hlow : 1 ≤ month) (hhigh : month ≤ 12) :
    longestMonth month = longestMonths[month - 1]?.getD 0 := by
  interval_cases month <;> rfl

/-- A pattern can match unless it names a day that the month it names never has (R113). -/
theorem patternCanMatch_iff {minute hour : Option Nat} {day weekdays month : Byte} (hmonth : PartInRange 1 12 month) :
    patternCanMatch ⟨minute, hour, dayPartOf day weekdays, partOf month⟩ = true ↔
      (day ≠ 0xFF → month ≠ 0xFF → day.toNat ≤ longestMonths[month.toNat - 1]?.getD 0) := by
  by_cases hday : day = 0xFF
  · refine iff_of_true ?_ fun hgiven => absurd hday hgiven
    by_cases hset : weekdays = 0
    · rw [hset, dayPartOf_any hday]
      rfl
    · rw [dayPartOf_weekdays hday hset]
      rfl
  · rw [dayPartOf_dayOfMonth hday, forall_prop_of_true hday]
    by_cases habsent : month = 0xFF
    · rw [partOf_absent habsent]
      exact iff_of_true rfl fun hgiven => absurd habsent hgiven
    · obtain ⟨hlow, hhigh⟩ := hmonth.resolve_left habsent
      rw [partOf_present habsent, forall_prop_of_true habsent, ← longestMonth_eq hlow hhigh]
      exact decide_eq_true_iff

/-! ## The action (R111) -/

/-- The action kind with the arguments it uses in range, and those it does not use zero (R111). -/
def ActionInRange (action arg1 arg2 : Byte) (duration : Half) : Prop :=
  (action = 1 ∧ 1 ≤ arg1.toNat ∧ arg1.toNat ≤ 254 ∧ 1 ≤ arg2.toNat ∧ arg2.toNat ≤ 7) ∨
  (action = 2 ∧ arg1.toNat ≤ 3 ∧ arg2 = 0 ∧ duration = 0) ∨
  (action = 3 ∧ 1 ≤ arg1.toNat ∧ arg1.toNat ≤ 7 ∧ arg2 = 0 ∧ duration = 0) ∨
  (action = 4 ∧ arg1.toNat ≤ 3 ∧ arg2 = 0 ∧ duration = 0)

/-- A display mode in range is one of the modes' codes (R45). -/
theorem exists_mode {b : Byte} (h : b.toNat ≤ 3) : ∃ mode : Mode, mode.code = b.toNat := by
  match hb : b.toNat, h with
  | 0, _ => exact ⟨.off, rfl⟩
  | 1, _ => exact ⟨.shown, rfl⟩
  | 2, _ => exact ⟨.allDark, rfl⟩
  | 3, _ => exact ⟨.allClear, rfl⟩

/-- An action in range is read, and it reads back byte for byte (R111, R114). -/
theorem ActionInRange.exists_read {action arg1 arg2 : Byte} {duration : Half} (h : ActionInRange action arg1 arg2 duration) :
    ∃ a, readAction action arg1 arg2 duration = some a ∧ actionBytes a = [action, arg1, arg2] ++ halfBytes duration := by
  rcases h with ⟨rfl, hlow, hhigh, hpriority⟩ | ⟨rfl, hlist, rfl, rfl⟩ | ⟨rfl, hlow, hhigh, rfl, rfl⟩ | ⟨rfl, hmode, rfl, rfl⟩
  · have hpage : readPageId arg1 = some arg1.toNat := if_pos ⟨hlow, hhigh⟩
    refine ⟨.showPage arg1.toNat arg2.toNat duration.toNat, ?_, ?_⟩
    · simp only [readAction, hpage, readPriority_eq hpriority]
      rfl
    · simp [actionBytes, twoBytes, byteOf_toNat]
  · obtain ⟨l, hl⟩ := exists_readIndex (bound := 4) (Nat.lt_succ_of_le hlist)
    refine ⟨.selectList l, congrArg (Option.map Action.selectList) hl, ?_⟩
    rw [actionBytes, ← readIndex_spec hl, byteOf_toNat]
    rfl
  · refine ⟨.clearBelow arg1.toNat, congrArg (Option.map Action.clearBelow) (readPriority_eq ⟨hlow, hhigh⟩), ?_⟩
    rw [actionBytes, byteOf_toNat]
    rfl
  · obtain ⟨m, hm⟩ := exists_mode hmode
    refine ⟨.display m, congrArg (Option.map Action.display) (readMode_eq hm), ?_⟩
    rw [actionBytes, hm, byteOf_toNat]
    rfl

/-- An action is read only in range (R111). -/
theorem readAction_inRange {action arg1 arg2 : Byte} {duration : Half} {a : Action}
    (h : readAction action arg1 arg2 duration = some a) : ActionInRange action arg1 arg2 duration := by
  have hpriority {b : Byte} {p : Nat} (hp : readPriority b = some p) : 1 ≤ b.toNat ∧ b.toNat ≤ 7 := by
    by_contra hout
    exact nomatch (readPriority_none hout).symm.trans hp
  have hmode {b : Byte} {m : Mode} (hm : readMode b = some m) : b.toNat ≤ 3 := by
    by_contra hout
    exact nomatch (readMode_none (Nat.not_le.mp hout)).symm.trans hm
  unfold readAction at h
  split at h
  · rename_i hkind
    split at h
    · rename_i hpage hp
      obtain ⟨rfl, hid⟩ := readPageId_spec hpage
      exact .inl ⟨BitVec.eq_of_toNat_eq hkind, hid.1, hid.2, hpriority hp⟩
    · cases h
  · rename_i hkind
    obtain ⟨⟨hunused, huntimed⟩, h⟩ := Option.ite_none_right_eq_some.mp h
    obtain ⟨l, hl, -⟩ := Option.map_eq_some_iff.mp h
    refine .inr (.inl ⟨BitVec.eq_of_toNat_eq hkind, ?_, hunused, huntimed⟩)
    rw [readIndex_spec hl]
    exact Nat.le_of_lt_succ l.isLt
  · rename_i hkind
    obtain ⟨⟨hunused, huntimed⟩, h⟩ := Option.ite_none_right_eq_some.mp h
    obtain ⟨p, hp, -⟩ := Option.map_eq_some_iff.mp h
    obtain ⟨hlow, hhigh⟩ := hpriority hp
    exact .inr (.inr (.inl ⟨BitVec.eq_of_toNat_eq hkind, hlow, hhigh, hunused, huntimed⟩))
  · rename_i hkind
    obtain ⟨⟨hunused, huntimed⟩, h⟩ := Option.ite_none_right_eq_some.mp h
    obtain ⟨m, hm, -⟩ := Option.map_eq_some_iff.mp h
    exact .inr (.inr (.inr ⟨BitVec.eq_of_toNat_eq hkind, hmode hm, hunused, huntimed⟩))
  · cases h

/-! ## The entry (R112 to R114) -/

/-- The flags byte holds ONCE and REPORT alone (R176). -/
theorem flags_inRange_iff {b : Byte} : b.extractLsb' 2 6 = 0 ↔ b.toNat < 4 := by
  revert b
  decide

/-- The flags read back as the byte they came in (R114). -/
theorem flags_roundtrip {b : Byte} (h : b.extractLsb' 2 6 = 0) :
    flagByte (b.getLsbD 0) ||| (if b.getLsbD 1 then 2 else 0) = b := by
  revert b
  decide

/-- Every part of an entry is in range, and its pattern can match (R111 to R113, R176). -/
def EntryInRange (minute hour day weekdays month flags action arg1 arg2 : Byte) (duration : Half) : Prop :=
  PartInRange 0 59 minute ∧ PartInRange 0 23 hour ∧ PartInRange 1 31 day ∧ weekdays.toNat < 128 ∧ PartInRange 1 12 month ∧
    (day ≠ 0xFF → weekdays = 0) ∧ flags.toNat < 4 ∧ ActionInRange action arg1 arg2 duration ∧
    (day ≠ 0xFF → month ≠ 0xFF → day.toNat ≤ longestMonths[month.toNat - 1]?.getD 0)

section
variable {minute hour day weekdays month flags action arg1 arg2 : Byte} {duration : Half}

/-- An entry in range is read, and it reads back byte for byte (R112 to R114). -/
theorem EntryInRange.exists_read (h : EntryInRange minute hour day weekdays month flags action arg1 arg2 duration) :
    ∃ e, readEntry minute hour day weekdays month flags action arg1 arg2 duration = some e ∧
      entryBytes e = [minute, hour, day, weekdays, month, flags, action, arg1, arg2] ++ halfBytes duration := by
  obtain ⟨hminute, hhour, hday, hset, hmonth, hone, hflags, haction, hcan⟩ := h
  have hdayPart : DayInRange day weekdays := ⟨hday, hset, hone⟩
  have hflagBits := flags_inRange_iff.mpr hflags
  obtain ⟨a, ha, hbytes⟩ := haction.exists_read
  refine ⟨⟨⟨partOf minute, partOf hour, dayPartOf day weekdays, partOf month⟩, flags.getLsbD 0, flags.getLsbD 1, a⟩, ?_, ?_⟩
  · simp only [readEntry, readPart_eq_some_iff.mpr ⟨hminute, rfl⟩, readPart_eq_some_iff.mpr ⟨hhour, rfl⟩, hdayPart.read,
      readPart_eq_some_iff.mpr ⟨hmonth, rfl⟩, ha]
    exact if_pos ⟨hflagBits, (patternCanMatch_iff hmonth).mpr hcan⟩
  · simp only [entryBytes, partByte_partOf, hdayPart.dayBytes_eq, flags_roundtrip hflagBits, hbytes]
    rfl

/-- An entry is read only in range (R112, R113). -/
theorem readEntry_inRange {e : Entry} (h : readEntry minute hour day weekdays month flags action arg1 arg2 duration = some e) :
    EntryInRange minute hour day weekdays month flags action arg1 arg2 duration := by
  unfold readEntry at h
  split at h
  · rename_i hminute hhour hday hmonth haction
    obtain ⟨⟨hflags, hcan⟩, -⟩ := Option.ite_none_right_eq_some.mp h
    obtain ⟨hminuteRange, rfl⟩ := readPart_eq_some_iff.mp hminute
    obtain ⟨hhourRange, rfl⟩ := readPart_eq_some_iff.mp hhour
    obtain ⟨hmonthRange, rfl⟩ := readPart_eq_some_iff.mp hmonth
    have hdayPart := readDayPart_inRange hday
    obtain rfl := Option.some.inj (hdayPart.read.symm.trans hday)
    obtain ⟨hdayByte, hset, hone⟩ := hdayPart
    exact ⟨hminuteRange, hhourRange, hdayByte, hset, hmonthRange, hone, flags_inRange_iff.mp hflags, readAction_inRange haction,
      (patternCanMatch_iff hmonthRange).mp hcan⟩
  · cases h

/-- The payload of a SET_ENTRY with a slot number or an entry out of range is not read (R112, R113). -/
theorem readSlotEntry_none {slot : Byte}
    (h : 31 < slot.toNat ∨ ¬EntryInRange minute hour day weekdays month flags action arg1 arg2 duration) :
    readSlotEntry slot minute hour day weekdays month flags action arg1 arg2 duration = none := by
  unfold readSlotEntry
  by_cases hslot : 31 < slot.toNat
  · rw [readIndex_none hslot]
    rfl
  · have hentry : readEntry minute hour day weekdays month flags action arg1 arg2 duration = none :=
      Option.eq_none_iff_forall_ne_some.mpr fun e he => h.resolve_left hslot (readEntry_inRange he)
    rw [hentry]
    cases readIndex 32 slot <;> rfl

/-- The payload of a SET_ENTRY is read as its slot and its entry (R112). -/
theorem readSlotEntry_eq {slot : Byte} {i : Fin 32} {e : Entry} (hslot : readIndex 32 slot = some i)
    (hentry : readEntry minute hour day weekdays month flags action arg1 arg2 duration = some e) :
    readSlotEntry slot minute hour day weekdays month flags action arg1 arg2 duration = some (i, e) := by
  rw [readSlotEntry, hslot, hentry]
  rfl

end

/-- Settles O49: the payload is read exactly where slot and entry are in range (`EntryInRange.exists_read`, `readSlotEntry_none`),
behind it the archive is checked, and the slot takes the entry read. -/
theorem setEntryArmsTheSlot : Obligations.SetEntryArmsTheSlot := by
  unfold Obligations.SetEntryArmsTheSlot
  rintro tag slot minute hour day weekdays month flags action arg1 arg2 duration s ⟨_, ⟨⟩, hr⟩ hwalk c part longest arguments good
  have hgood (h : good) : EntryInRange minute hour day weekdays month flags action arg1 arg2 duration := h
  simp only [c, exec_setEntry]
  refine ⟨fun hbad => congrArg _ (takeRequest_slotGate_unread hr hwalk (readSlotEntry_none hbad)), fun hslot h hop => ?busy,
    fun i hi h hop => ?arms⟩
  case busy =>
    obtain ⟨i, hi⟩ := exists_readIndex (bound := 32) (Nat.lt_succ_of_le hslot)
    obtain ⟨e, he, -⟩ := (hgood h).exists_read
    exact congrArg _ (takeRequest_slotGate_busy hr hwalk (readSlotEntry_eq hi he) hop)
  case arms =>
    obtain ⟨e, he, hbytes⟩ := (hgood h).exists_read
    exact ⟨e, congrArg (1 :: ·) hbytes,
      congrArg _ (takeRequest_slotGate_idle hr hwalk (readSlotEntry_eq (readIndex_eq hi) he) hop)⟩

end Sys2Proof.Machine
end

section
/-! PROOFS. The end of a save, the fault of a bank's memory (R133, R137), SET_STARTUP and ARCHIVE_INFO (R131, R144). -/
namespace Sys2Proof.Machine
open Sys2Proof

/-! ## The end of a save (R137) -/

section
variable {s : State} {target : BankId} {n : Nat} {image : Collections} {tag : Byte}
  (hop : s.archive.op = .save target n image tag)
include hop

/-- A save that verifies: the target bank takes its marker and is valid. -/
theorem exec_saveEnd_passes :
    exec (.saveEnd true) s =
      .next ((s.setArchive { s.archive.setBank target (.marked n image true) (some n) with op := .none }).reply
        (bankReply tag target n)) := by
  change execSaveEnd true s = _
  rw [execSaveEnd, hop]
  rfl

/-- A save that does not verify: the target bank has no marker. -/
theorem exec_saveEnd_fails :
    exec (.saveEnd false) s =
      .next ((s.setArchive { s.archive.setBank target .unmarked none with op := .none, dirty := true }).reply
        (refusal tag .failed)) := by
  change execSaveEnd false s = _
  rw [execSaveEnd, hop]
  rfl

end

/-- Without a save in progress the end of one changes nothing (log entry 5). -/
theorem exec_saveEnd_idle {s : State} (h : s.archive.op.code ≠ 1) (verified : Bool) : exec (.saveEnd verified) s = .next s := by
  change execSaveEnd verified s = _
  unfold execSaveEnd
  split
  case h_1 hop => exact absurd (congrArg ArchiveOp.code hop) h
  case h_2 => rfl

/-! ## The fault of a bank's memory (R133) -/

section
variable {s : State} {bank : BankId}

/-- A marked bank is left with its marker and an image that fails its check. -/
theorem exec_bankDamaged_marked {n : Nat} {image : Collections} {agrees : Bool}
    (h : s.archive.content bank = .marked n image agrees) (sequence : Quad) :
    exec (.bankDamaged bank sequence) s =
      .next (s.setArchive (s.archive.setContent bank (.marked sequence.toNat image false))) := by
  change execBankDamaged bank sequence s = _
  rw [execBankDamaged, h]

theorem exec_bankDamaged_unmarked (h : s.archive.content bank = .unmarked) (sequence : Quad) :
    exec (.bankDamaged bank sequence) s = .next s := by
  change execBankDamaged bank sequence s = _
  rw [execBankDamaged, h]

end

/-- Settles O55: the end of a save goes by the operation and the verify, and a fault by what the bank holds, for either bank
alike. -/
theorem saveEndsAndBankFaults : Obligations.SaveEndsAndBankFaults := by
  unfold Obligations.SaveEndsAndBankFaults
  exact ⟨fun s => ⟨fun _ _ _ hop => ⟨exec_saveEnd_passes hop, exec_saveEnd_fails hop⟩,
      fun _ _ _ hop => ⟨exec_saveEnd_passes hop, exec_saveEnd_fails hop⟩, fun verified h => exec_saveEnd_idle h verified⟩,
    fun s sequence => ⟨fun _ _ _ h => exec_bankDamaged_marked (bank := .a) h sequence,
      fun _ _ _ h => exec_bankDamaged_marked (bank := .b) h sequence,
      fun h => exec_bankDamaged_unmarked (bank := .a) h sequence, fun h => exec_bankDamaged_unmarked (bank := .b) h sequence⟩⟩

/-! ## SET_STARTUP (R131) -/

section
variable {list mode contrast attn : Byte} {mask : Half}

/-- A startup record in range is read as it stands (R131). -/
theorem readStartup_eq {l : Fin 4} {m : Mode} (hlist : list.toNat = l.val) (hmode : m.code = mode.toNat)
    (hcontrast : contrast.toNat ≤ 15) (hattn : attn.toNat ≤ 1) :
    readStartup list mode contrast mask attn = some ⟨l, m, contrast.toNat, mask, decide (attn = 1)⟩ := by
  simp only [readStartup, readIndex_eq hlist, readMode_eq hmode, readFlag_eq hattn, if_pos hcontrast]

theorem exists_readStartup (h : list.toNat ≤ 3 ∧ mode.toNat ≤ 3 ∧ contrast.toNat ≤ 15 ∧ attn.toNat ≤ 1) :
    ∃ r, readStartup list mode contrast mask attn = some r :=
  have ⟨hlist, hmode, hcontrast, hattn⟩ := h
  have ⟨_, hm⟩ := exists_mode hmode
  ⟨_, readStartup_eq (l := ⟨list.toNat, Nat.lt_succ_of_le hlist⟩) rfl hm hcontrast hattn⟩

/-- A startup record is read only in range (R131). -/
theorem readStartup_inRange {r : StartupRecord} (h : readStartup list mode contrast mask attn = some r) :
    list.toNat ≤ 3 ∧ mode.toNat ≤ 3 ∧ contrast.toNat ≤ 15 ∧ attn.toNat ≤ 1 := by
  unfold readStartup at h
  split at h
  case h_2 => cases h
  case h_1 hlist hmode hattn =>
    obtain ⟨hcontrast, -⟩ := Option.ite_none_right_eq_some.mp h
    refine ⟨?_, ?_, hcontrast, ?_⟩ <;> by_contra hout
    · exact nomatch (readIndex_none (Nat.lt_of_not_le hout)).symm.trans hlist
    · exact nomatch (readMode_none (Nat.lt_of_not_le hout)).symm.trans hmode
    · exact nomatch (readFlag_none hout).symm.trans hattn

end

/-- SET_STARTUP reads its payload and checks the archive as the writes of a slot do (`State.slotGate`), with no walk before it. -/
theorem exec_setStartup (tag list mode contrast : Byte) (mask : Half) (attn : Byte) (s : State) :
    exec (.setStartup tag list mode contrast mask attn) s =
      .next (takeRequest ⟨tag, 0x5B, [list, mode, contrast] ++ halfBytes mask ++ [attn]⟩
        (fun t => t.slotGate (readStartup list mode contrast mask attn)
          fun r => .ok [] (t.setArchive { t.archive with startup := r }).markDirty) s) := by
  refine congrArg (fun owner => Host.Outcome.next (takeRequest _ owner s)) (funext fun t => ?_)
  cases readStartup list mode contrast mask attn <;> rfl

section
variable {α : Type} {s : State} {payload : Option α} {go : α → Taken}

theorem State.slotGate_unread (h : payload = none) : s.slotGate payload go = .no .badField := by
  rw [h]
  rfl

theorem State.slotGate_busy {x : α} (h : payload = some x) (hop : s.archive.op ≠ .none) :
    s.slotGate payload go = .no .archiveBusy := by
  rw [h]
  exact if_pos (State.archiveBusy_iff.mpr hop)

theorem State.slotGate_idle {x : α} (h : payload = some x) (hop : s.archive.op = .none) : s.slotGate payload go = go x := by
  rw [h]
  exact if_neg fun hbusy => State.archiveBusy_iff.mp hbusy hop

end

/-! ## ARCHIVE_INFO (R144) -/

theorem exec_archiveInfo {tag : Byte} {s : State} (hhanded : s.HasHanded (.archiveInfo tag)) :
    exec (.archiveInfo tag) s = .next (s.answered (okReply tag (archiveBytes s.archive))) := by
  obtain ⟨_, ⟨⟩, hr⟩ := hhanded
  exact congrArg Host.Outcome.next (takeRequest_ok (t := s.unhand) hr rfl)

/-- Settles O57: SET_STARTUP makes the checks of `State.slotGate`, and the bytes of ARCHIVE_INFO are told part by part, the current
bank by the validity records. -/
theorem startupRecordAndArchiveInfo : Obligations.StartupRecordAndArchiveInfo := by
  unfold Obligations.StartupRecordAndArchiveInfo
  constructor
  case left =>
    rintro tag list mode contrast attn mask s ⟨_, ⟨⟩, hr⟩ c good
    simp only [c, exec_setStartup]
    refine ⟨fun hbad => ?unread, fun hgood hop => ?busy, fun l m hlist hmode ⟨_, _, hcontrast, hattn⟩ hop => ?writes⟩
    case unread =>
      have hnone : readStartup list mode contrast mask attn = none :=
        Option.eq_none_iff_forall_ne_some.mpr fun _ hread => hbad (readStartup_inRange hread)
      exact congrArg _ (takeRequest_refused hr (State.slotGate_unread hnone))
    case busy =>
      obtain ⟨_, hread⟩ := exists_readStartup hgood
      exact congrArg _ (takeRequest_refused hr (State.slotGate_busy hread hop))
    case writes =>
      have hread := readStartup_eq (mask := mask) hlist hmode.symm hcontrast hattn
      exact congrArg _ ((takeRequest_ok hr (State.slotGate_idle hread hop)).trans rfl)
  case right =>
    intro tag s hhanded a row current operation
    have hrow (r : Option Nat) : recordBytes r = row r := by cases r <;> rfl
    have hcurrent : partByte (a.current.map fun c => bankCode c.1) = current := by
      simp only [current]
      cases hA : a.recordA with
      | none =>
        cases hB : a.recordB with
        | none => rw [Archive.current_unrecorded hA hB]; rfl
        | some n => rw [Archive.current_onlyB hA hB]; rfl
      | some m =>
        cases hB : a.recordB with
        | none => rw [Archive.current_onlyA hA hB]; rfl
        | some n =>
          by_cases h : m < n
          · rw [Archive.current_newerB hA hB h]; exact (if_pos h).symm
          · rw [Archive.current_notNewerB hA hB h]; exact (if_neg h).symm
    have hoperation : [byteOf a.op.code, partByte (a.op.target.map bankCode)] = operation := by
      simp only [operation]
      cases a.op with
      | none => rfl
      | save bank => cases bank <;> rfl
      | restore => rfl
    rw [exec_archiveInfo hhanded, archiveBytes, hrow, hrow, hcurrent, ← hoperation]
    simp only [List.append_assoc]
    rfl

end Sys2Proof.Machine
end

section
/-! PROOFS. The report queue: what becomes of a report offered, row by row (R145, R147), and the queue's requests with the ATTN line
(R149 to R153). -/
namespace Sys2Proof.Machine
open Sys2Proof

/-! ## The rows of the queue's table (R147) -/

/-- A report is taken when it is STARTED or the mask enables its kind (R147 row 1, R151). -/
theorem kindEnabled_iff {mask : Half} {k : Kind} : kindEnabled mask k = true ↔ k = .started ∨ mask.getLsbD k.code = true := by
  simp [kindEnabled]

section
variable {q : ReportQueue} {k : Kind} {subject detail n : Nat} {stamp : Option Stamp}

/-- Among records of other kinds and subjects none is about this one. -/
theorem not_any_about {records : List Report} (h : ∀ r ∈ records, ¬(r.kind = k ∧ r.subject = subject)) :
    ¬records.any (·.about k subject) = true := fun hany =>
  let ⟨r, hr, habout⟩ := List.any_eq_true.mp hany
  h r hr (Report.about_iff.mp habout)

/-- Row 1: a disabled kind changes nothing. -/
theorem ReportQueue.settle_disabled (h : kindEnabled q.mask k = false) : q.settle stamp k subject detail n = q :=
  if_pos (by rw [h]; rfl)

section
variable (henabled : kindEnabled q.mask k = true)
include henabled

/-- A report that is taken goes through rows 2 to 4. -/
theorem ReportQueue.settle_enabled :
    q.settle stamp k subject detail n =
      if q.records.any (·.about k subject) then { q with records := coalesce q.records k subject detail n }
      else if Config.maxReports ≤ q.records.length then { q with lost := true }
      else ({ q with records := q.records ++ [⟨k, subject, detail, n, stamp⟩] } : ReportQueue).examineAttn :=
  if_neg (by rw [henabled]; exact Bool.false_ne_true)

/-- Row 2: the report folds into the one record of its kind and subject. -/
theorem ReportQueue.settle_stands (hrecords : recordsOk q.records) {i : Nat} {r : Report} (hr : q.records[i]? = some r)
    (hkind : r.kind = k) (hsubject : r.subject = subject) :
    q.settle stamp k subject detail n = { q with records := q.records.set i (r.fold detail n) } := by
  subst hkind hsubject
  rw [ReportQueue.settle_enabled henabled,
    if_pos (List.any_eq_true.mpr ⟨r, List.mem_of_getElem? hr, Report.about_iff.mpr ⟨rfl, rfl⟩⟩), coalesce_eq_set hrecords hr]

variable (hnew : ∀ r ∈ q.records, ¬(r.kind = k ∧ r.subject = subject))
include hnew

/-- Row 3: a full queue drops the report and sets LOST. -/
theorem ReportQueue.settle_full (hfull : Config.maxReports ≤ q.records.length) :
    q.settle stamp k subject detail n = { q with lost := true } := by
  rw [ReportQueue.settle_enabled henabled, if_neg (not_any_about hnew), if_pos hfull]

/-- Row 4: a record is created, and ATTN goes low where its enable is on (R153). -/
theorem ReportQueue.settle_new (hroom : q.records.length < Config.maxReports) :
    q.settle stamp k subject detail n =
      { q with records := q.records ++ [⟨k, subject, detail, n, stamp⟩], attnLow := q.attnEnable } := by
  rw [ReportQueue.settle_enabled henabled, if_neg (not_any_about hnew), if_neg (Nat.not_le.mpr hroom)]
  simp [ReportQueue.examineAttn]

end

end

/-- A part that listens settles an offered report at once, with the stamp of the calendar (R145, R147). -/
theorem State.offer_eq_settle {s : State} (hphase : s.phase = .listening) (k : Kind) (subject detail : Nat) :
    s.offer k subject detail = s.setReports (s.reports.settle s.calendar.stamp k subject detail 1) := by
  rw [State.offer, State.offerStamped, if_pos (State.listening_iff.mpr hphase)]

/-- The stamp of a record created now (R145). -/
theorem Calendar.stamp_eq (c : Calendar) :
    c.stamp = if c.state = .invalid then none else some ⟨c.fields.hour, c.fields.minute⟩ := by
  unfold Calendar.stamp
  cases c.state <;> rfl

/-- Settles O16: an offered report is settled at once (`State.offer_eq_settle`), and the four rows of the table are the four lemmas
`ReportQueue.settle_disabled`, `settle_stands`, `settle_full` and `settle_new`. -/
theorem reportSettlesByTheTable : Obligations.ReportSettlesByTheTable := by
  unfold Obligations.ReportSettlesByTheTable
  intro s k subject detail hphase hok q stamp
  obtain ⟨-, hrecords, -⟩ := hok
  have hstamp : s.calendar.stamp = stamp := s.calendar.stamp_eq
  rw [State.offer_eq_settle hphase, hstamp]
  refine ⟨fun hk hoff => ?disabled, fun henabled => ?enabled⟩
  case disabled =>
    rw [ReportQueue.settle_disabled ((kindEnabled_of_ne hk).trans hoff)]
    rfl
  case enabled =>
    have henabled := kindEnabled_iff.mpr henabled
    exact ⟨fun i r hr hkind hsubject => congrArg _ (ReportQueue.settle_stands henabled hrecords hr hkind hsubject),
      fun hnew => ⟨fun hfull => congrArg _ (ReportQueue.settle_full henabled hnew (Nat.le_of_eq hfull.symm)),
        fun hroom => congrArg _ (ReportQueue.settle_new henabled hnew hroom)⟩⟩

/-! ## The queue's requests (R149 to R153, R177) -/

/-- A report record's reply bytes, its stamp part by part (R177). -/
theorem reportBytes_eq (r : Report) :
    reportBytes r = [byteOf r.kind.code, byteOf r.subject, byteOf r.detail, byteOf r.count,
      partByte (r.stamp.map Stamp.hour), partByte (r.stamp.map Stamp.minute)] := by
  unfold reportBytes
  cases r.stamp <;> rfl

/-- A fetch of more records than stand is a fetch of those that stand (R149). -/
theorem ReportQueue.fetch_min (q : ReportQueue) (max : Nat) : q.fetch (min max q.records.length) = q.fetch max := by
  simp only [ReportQueue.fetch, ← List.drop_eq_drop_min]

section
variable {tag : Byte} {s : State}

/-- FETCH_REPORTS of 1 to 8 records (R149). -/
theorem exec_fetchReports_taken {max : Byte} (hhanded : s.HasHanded (.fetchReports tag max))
    (hmax : 1 ≤ max.toNat ∧ max.toNat ≤ 8) :
    exec (.fetchReports tag max) s =
      .next ((s.answered (okReply tag (fetchPayload s.reports max.toNat))).setReports (s.reports.fetch max.toNat)) := by
  obtain ⟨_, ⟨⟩, hr⟩ := hhanded
  exact congrArg _ (takeRequest_ok (t := s.unhand.setReports (s.reports.fetch max.toNat)) hr (if_pos hmax))

/-- FETCH_REPORTS of no record or of more than 8 (R149). -/
theorem exec_fetchReports_refused {max : Byte} (hhanded : s.HasHanded (.fetchReports tag max))
    (hmax : ¬(1 ≤ max.toNat ∧ max.toNat ≤ 8)) :
    exec (.fetchReports tag max) s = .next (s.answered (refusal tag .badField)) := by
  obtain ⟨_, ⟨⟩, hr⟩ := hhanded
  exact congrArg _ (takeRequest_refused hr (if_neg hmax))

/-- SET_REPORT_MASK writes the mask and returns it (R151). -/
theorem exec_setReportMask {mask : Half} (hhanded : s.HasHanded (.setReportMask tag mask)) :
    exec (.setReportMask tag mask) s =
      .next ((s.answered (okReply tag (halfBytes mask))).setReports { s.reports with mask := mask }) := by
  obtain ⟨_, ⟨⟩, hr⟩ := hhanded
  exact congrArg _ (takeRequest_ok (t := s.unhand.setReports { s.reports with mask := mask }) hr rfl)

/-- SET_ATTN writes the enable that is read, and ATTN is re-examined (R152, R153). -/
theorem exec_setAttn_read {enable : Byte} {flag : Bool} (hhanded : s.HasHanded (.setAttn tag enable))
    (hread : readFlag enable = some flag) :
    exec (.setAttn tag enable) s =
      .next ((s.answered (okReply tag [])).setReports
        { s.reports with attnEnable := flag, attnLow := flag && !s.reports.records.isEmpty }) := by
  obtain ⟨_, ⟨⟩, hr⟩ := hhanded
  refine congrArg _ (takeRequest_ok
    (t := s.unhand.setReports ({ s.reports with attnEnable := flag } : ReportQueue).examineAttn) hr ?_)
  simp only [hread, State.unhand_reports]

/-- SET_ATTN of an enable that is no flag (R152). -/
theorem exec_setAttn_unread {enable : Byte} (hhanded : s.HasHanded (.setAttn tag enable)) (hread : readFlag enable = none) :
    exec (.setAttn tag enable) s = .next (s.answered (refusal tag .badField)) := by
  obtain ⟨_, ⟨⟩, hr⟩ := hhanded
  refine congrArg _ (takeRequest_refused hr ?_)
  simp only [hread, Taken.no]

end

/-- Settles O17: each request reads its operand, and then fetches from the front of the queue or writes one of its settings. -/
theorem reportRequests : Obligations.ReportRequests := by
  unfold Obligations.ReportRequests
  refine ⟨fun tag max s hhanded => ⟨fun hbad => ?_, fun hlow hhigh => ?_⟩, fun tag mask s hhanded => exec_setReportMask hhanded,
    fun tag enable s hhanded => ⟨?_, ?_, fun h0 h1 => ?_⟩⟩
  · exact exec_fetchReports_refused hhanded (by omega)
  · intro q n
    have htake : q.records.take max.toNat = q.records.take n := List.take_eq_take_min
    rw [exec_fetchReports_taken hhanded ⟨hlow, hhigh⟩, ← ReportQueue.fetch_min, fetchPayload, htake, funext reportBytes_eq]
    rfl
  · rintro rfl
    exact exec_setAttn_read hhanded rfl
  · rintro rfl
    exact exec_setAttn_read hhanded rfl
  · exact exec_setAttn_unread hhanded (by rw [readFlag, if_neg h0, if_neg h1])

end Sys2Proof.Machine
end

section
/-! PROOFS. Every command's meaning keeps the law of the report queue alone (R146, R147, R153, R155): each operation leaves the queue,
or offers reports to it, or is one of the queue's own. -/
namespace Sys2Proof.Machine
open Sys2Proof

/-! ## The operations of the blocks -/

namespace State.ReportsOk

/-- The law of the report queue is about the phase and the queue alone. -/
theorem congr {s t : State} (h : s.ReportsOk) (hphase : t.phase = s.phase) (hreports : t.reports = s.reports) : t.ReportsOk := by
  unfold State.ReportsOk
  rw [hphase, hreports]
  exact h

section
variable {s : State} (h : s.ReportsOk)
include h

/-! ### Changes of the other blocks -/

theorem setStore (x : PageStore) : (s.setStore x).ReportsOk := h
theorem setFrame (x : FrameEngine) : (s.setFrame x).ReportsOk := h
theorem setRotation (x : Rotation) : (s.setRotation x).ReportsOk := h
theorem setStack (x : OverrideStack) : (s.setStack x).ReportsOk := h
theorem setCalendar (x : Calendar) : (s.setCalendar x).ReportsOk := h
theorem setSchedule (x : Schedule) : (s.setSchedule x).ReportsOk := h
theorem setArchive (x : Archive) : (s.setArchive x).ReportsOk := h
theorem setOwed (x : Owed) : (s.setOwed x).ReportsOk := h
theorem reply (r : Reply) : (s.reply r).ReportsOk := h
theorem receive (r : Receiver) : (s.receive r).ReportsOk := h
theorem unhand : s.unhand.ReportsOk := h
theorem setPending (cs : List Instr) : (s.setPending cs).ReportsOk := h

/-! ### The selection, the rotation, the override stack and the page store -/

theorem offer (k : Kind) (subject detail : Nat) : (s.offer k subject detail).ReportsOk := h.offerStamped _ k subject detail

theorem recompute : s.recompute.ReportsOk := by
  rcases s.recompute_cases with ⟨-, he⟩ | ⟨-, he⟩ <;> rw [he]
  · exact h
  · exact (h.setStack _).offer _ _ _

theorem reseat (l : Fin 4) : (s.reseat l).ReportsOk := by
  rcases s.reseat_cases l with ⟨j, step, -, he⟩ | ⟨-, he⟩ | ⟨-, he⟩ <;> rw [he]
  · exact h
  · exact h
  · exact (h.setRotation _).offer _ _ _

theorem reseatAndOffer (l : Fin 4) : (s.reseatAndOffer l).ReportsOk := (h.reseat l).recompute

theorem advance (k : Nat) : (s.advance k).ReportsOk := by
  unfold State.advance
  dsimp only
  split
  · exact h
  · refine recompute ?_
    split
    · exact (h.setRotation _).offer _ _ _
    · exact h

theorem countDwell : s.countDwell.ReportsOk := by
  unfold State.countDwell
  split
  · split
    · exact h
    · exact h.advance _
  · exact h

theorem rotationPageGone (page : Nat) : (s.rotationPageGone page).ReportsOk := by
  unfold State.rotationPageGone
  split
  · exact h
  · dsimp only
    split
    · split
      · exact h
      · exact (h.setRotation _).offer _ _ _
    · exact h

theorem rotationPageCreated (page : Nat) : (s.rotationPageCreated page).ReportsOk := by
  unfold State.rotationPageCreated
  split
  · exact h.reseatAndOffer _
  · exact h

theorem offerEnded (detail : Nat) (gone : List Override) : (s.offerEnded detail gone).ReportsOk := by
  induction gone generalizing s with
  | nil => exact h
  | cons o rest ih => exact ih (h.offer _ _ _)

theorem endOverrides (gone : Override → Bool) (detail : Nat) : (s.endOverrides gone detail).ReportsOk :=
  (h.setStack _).offerEnded _ _

theorem admitRecord (new : Override) : (s.admitRecord new).2.ReportsOk := by
  unfold State.admitRecord
  dsimp only
  split
  · exact h
  · split
    · exact h
    · split
      · split
        · exact (h.setStack _).offer _ _ _
        · exact h
      · exact h

theorem takeShow (slot page priority duration : Nat) : (s.takeShow slot page priority duration).ReportsOk := by
  unfold State.takeShow
  split
  · have hadmitted := h.admitRecord ⟨.schedule slot, page, priority, readDuration duration⟩
    split
    · exact h.offer _ _ _
    · rename_i hadmit
      rw [hadmit] at hadmitted
      exact hadmitted.recompute
  · exact h.offer _ _ _

theorem takeClearBelow (priority : Nat) : (s.takeClearBelow priority).ReportsOk := (h.endOverrides _ _).recompute

theorem countOverrides : s.countOverrides.ReportsOk := by
  have hcounted (kept expired : List Override) :
      ((s.setStack { s.stack with records := kept }).offerEnded 1 expired).ReportsOk :=
    (h.setStack _).offerEnded _ _
  unfold State.countOverrides
  dsimp only
  split
  · exact hcounted _ _
  · exact (hcounted _ _).recompute

theorem countDraft (d : Fin 2) : (s.countDraft d).ReportsOk := by
  unfold State.countDraft
  split
  · split
    · exact h
    · exact (h.setStore _).offer _ _ _
  · exact h

theorem countDrafts : s.countDrafts.ReportsOk := (h.countDraft 0).countDraft 1

/-- A removed page is told to the stack and the rotation, which offer their reports (R19, R70, R82). -/
theorem removePage (id : Nat) : (s.removePage id).ReportsOk :=
  ((((h.setStore _).setArchive _).endOverrides _ _).rotationPageGone id).recompute

/-! ## The walk of a minute start (R119 to R126) -/

theorem handAction (slot : Nat) (a : Action) : (s.handAction slot a).ReportsOk := by
  cases a with
  | showPage page priority duration => exact h.takeShow _ _ _ _
  | selectList list => exact h.reseatAndOffer _
  | clearBelow priority => exact h.takeClearBelow _
  | display mode => exact h

theorem noteFiring (f : Firing) : (s.noteFiring f).ReportsOk := by
  have hreported : (s.reportFiring f).ReportsOk := by
    unfold State.reportFiring
    split
    · exact h.offerStamped _ _ _ _
    · exact h
  rw [State.noteFiring_eq]
  split
  · exact hreported
  · exact hreported

theorem fireNext : s.fireNext.ReportsOk := by
  unfold State.fireNext
  split
  · exact h
  · exact ((h.setSchedule _).handAction _ _).noteFiring _

theorem fireMany (n : Nat) : (s.fireMany n).ReportsOk := by
  induction n generalizing s with
  | zero => exact h
  | succ n ih => exact ih h.fireNext

theorem beginWalk : s.beginWalk.ReportsOk := h.congr (by simp) (by simp)

theorem finishWalk : s.finishWalk.ReportsOk := by
  unfold State.finishWalk
  split
  · exact h.fireMany _
  · exact h

theorem takeMinute : s.takeMinute.ReportsOk := h.beginWalk.finishWalk

theorem takeMinutes (n : Nat) : (s.takeMinutes n).ReportsOk := by
  induction n generalizing s with
  | zero => exact h
  | succ n ih => exact ih h.takeMinute

theorem takeWaiting : s.takeWaiting.ReportsOk := h.takeMinutes _

theorem handDue (isIt : Firing → Bool) : (s.handDue isIt).ReportsOk := by
  unfold State.handDue
  split
  · split
    · exact h.beginWalk.fireNext
    · exact h
  · exact h

/-! ## The calendar (R95, R97, R104) -/

theorem restartPrescaler : s.restartPrescaler.ReportsOk := h

theorem countSecond : s.countSecond.ReportsOk := by
  have hfirst : (if s.calendar.fields.nextSecond.second = 0 then s.takeWaiting else s).ReportsOk := by
    split
    · exact h.takeWaiting
    · exact h
  have hadvanced : s.advanceCalendar.ReportsOk := by
    unfold State.advanceCalendar
    split
    · exact (hfirst.setCalendar _).offer _ _ _
    · exact hfirst
  rw [State.countSecond_eq]
  split
  · exact hadvanced
  · exact hadvanced

theorem countHold (timer : Nat) : (s.countHold timer).ReportsOk := by
  rcases s.countHold_cases timer with ⟨-, he⟩ | ⟨-, he⟩ <;> rw [he]
  · exact h
  · exact (h.setCalendar _).offer _ _ _

/-! ## The link (R158 to R164) -/

theorem refuseFrame (tag : Byte) (result : Result) : (s.refuseFrame tag result).ReportsOk := by
  unfold State.refuseFrame
  split
  · exact h
  · exact h.offer _ _ _

theorem checkRequest (r : Request) : (s.checkRequest r).ReportsOk := by
  unfold State.checkRequest
  split
  · exact h.refuseFrame _ _
  split
  · exact h.refuseFrame _ _
  split
  · exact h.refuseFrame _ _
  split
  · exact h.refuseFrame _ _
  split
  · exact h
  · exact h.refuseFrame _ _

theorem takeByte (b : Byte) : (s.takeByte b).ReportsOk := by
  unfold State.takeByte
  split
  · split
    · split
      · exact h
      · exact h
    · split
      · exact h
      · exact (h.receive .hunt).offer _ _ _
    · split
      · exact h
      · exact h
    · split
      · split
        · exact (h.receive .hunt).checkRequest _
        · exact h
      · exact (h.receive .hunt).offer _ _ _
  · exact h

theorem takeBytes (bytes : List Byte) : (s.takeBytes bytes).ReportsOk := by
  induction bytes generalizing s with
  | nil => exact h
  | cons b rest ih => exact ih (h.takeByte b)

theorem handOff : s.handOff.ReportsOk := h.congr (by simp) (by simp)

/-! ## The frame boundary (R14, R37, R49) -/

theorem keepCadence : s.keepCadence.ReportsOk := h

theorem completeCommit (e : PendingCommit) : (s.completeCommit e).ReportsOk := by
  unfold State.completeCommit
  split
  · dsimp only
    split
    · exact (((h.setStore _).setArchive _).reply _).rotationPageCreated _
    · exact h
  · exact h

theorem completeCommits : s.completeCommits.ReportsOk := by
  unfold State.completeCommits
  generalize s.store.commits = commits
  induction commits generalizing s with
  | nil => exact h
  | cons e rest ih => exact ih (h.completeCommit e)

theorem offerOverflows (page : Nat) (indices : List (Fin 4)) : (s.offerOverflows page indices).ReportsOk := by
  induction indices generalizing s with
  | nil => exact h
  | cons i rest ih => exact ih (h.offer _ _ _)

theorem latchFrame : s.latchFrame.ReportsOk := by
  unfold State.latchFrame
  dsimp only
  split
  · exact ((h.setFrame _).setStore _).offerOverflows _ _
  · exact h

/-! ## A restore and the starts (R108, R140 to R155) -/

theorem abandonDraft (d : Fin 2) : (s.abandonDraft d).ReportsOk := by
  unfold State.abandonDraft
  split
  · exact (h.setStore _).offer _ _ _
  · exact h

theorem installRestored (image : Collections) : (s.installRestored image).ReportsOk := by
  have hinstalled : (s.install image).ReportsOk := h
  exact ((((hinstalled.abandonDraft 0).abandonDraft 1).endOverrides _ _).reseat _).recompute

/-- A start empties the queue and keeps what is held aside (R154, R155). -/
theorem clearLive {phase : Phase} (hphase : phase ≠ .listening) : (s.clearLive phase).ReportsOk :=
  let ⟨_, _, haside, _, _⟩ := h
  ⟨Nat.zero_le _, ⟨List.Pairwise.nil, List.forall_mem_nil _⟩, haside, fun hl => absurd hl hphase, fun hl => absurd hl hphase⟩

/-- During a start the law says nothing of ATTN. -/
theorem setPhase {phase : Phase} (hphase : phase ≠ .listening) : (s.setPhase phase).ReportsOk :=
  let ⟨hlength, hrecords, haside, _, _⟩ := h
  ⟨hlength, hrecords, haside, fun hl => absurd hl hphase, fun hl => absurd hl hphase⟩

theorem releaseAtStart : s.releaseAtStart.ReportsOk := by
  unfold State.releaseAtStart
  split
  · exact h
  · exact h

/-- At the end of a start the queue is STARTED and what was held aside, with ATTN examined (R154, R155). -/
theorem queueStarted (cause : Cause) (outcome : RestoreOutcome) : ((s.queueStarted cause outcome).setPhase .listening).ReportsOk := by
  obtain ⟨-, -, ⟨-, hcounts⟩, -, -⟩ := h
  obtain ⟨hstarted, hattn⟩ := ReportQueue.settle_started (q := { s.reports with records := [], lost := false, aside := [] }) rfl
    s.calendar.stamp cause.code outcome.code
  obtain ⟨hsettled, hsettledAttn, hsettledAside⟩ := ReportQueue.settleAside_ok hcounts hstarted hattn s.calendar.stamp
  rw [ReportQueue.settle_aside] at hsettledAside
  exact ⟨hsettled.1, hsettled.2, hsettledAside ▸ ⟨List.Pairwise.nil, List.forall_mem_nil _⟩, fun _ => hsettledAttn,
    fun _ => hsettledAside⟩

/-! ## The queue's own requests (R149 to R153) -/

/-- A queue of legal records that has ATTN right takes the place of another with the same reports held aside. -/
theorem setReports {q : ReportQueue} (hrecords : q.RecordsOk) (hattn : q.AttnOk) (haside : q.aside = s.reports.aside) :
    (s.setReports q).ReportsOk :=
  let ⟨_, _, hasideOk, _, hempty⟩ := h
  ⟨hrecords.1, hrecords.2, haside ▸ hasideOk, fun _ => hattn, fun hl => haside.trans (hempty hl)⟩

/-- Records leave from the front, and ATTN is re-examined (R149, R153). -/
theorem fetch (n : Nat) : (s.setReports (s.reports.fetch n)).ReportsOk := by
  have ⟨hlength, hrecords, _, _, _⟩ := h
  refine h.setReports ⟨Nat.le_trans ?_ hlength, hrecords.sublist (List.drop_sublist n _)⟩ (ReportQueue.examineAttn_attnOk _) rfl
  simp [ReportQueue.fetch]

/-- The enable is written, and ATTN re-examined (R152, R153). -/
theorem setAttn (enable : Bool) : (s.setReports ({ s.reports with attnEnable := enable } : ReportQueue).examineAttn).ReportsOk :=
  let ⟨hlength, hrecords, _, _, _⟩ := h
  h.setReports ⟨hlength, hrecords⟩ (ReportQueue.examineAttn_attnOk _) rfl

end

end State.ReportsOk

/-! ## What an owner makes of the queue -/

/-- The state an owner answers with, and otherwise the one it was given (R164, R167). -/
def Taken.stateAfter (s : State) : Taken → State
  | .ok _ t => t
  | .deferred t => t
  | .refused _ _ => s
  | .restart => s

/-- The reply leaves the report queue, so the taking of a request keeps its law where the owner does (R164). -/
theorem State.ReportsOk.conclude {s : State} {x : Taken} (h : (x.stateAfter s).ReportsOk) (tag : Byte) :
    (s.conclude tag x).ReportsOk := by
  cases x with
  | ok payload t => exact h
  | refused result payload => exact h
  | deferred t => exact h
  | restart => exact h

/-- An owner keeps the law of the report queue. -/
def OwnerKeepsReports (owner : State → Taken) : Prop := ∀ s : State, s.ReportsOk → ((owner s).stateAfter s).ReportsOk

/-- The state an outcome leads to, if any, meets the law of the report queue. -/
def ReportsOkAfter (o : Host.Outcome State Fault Refusal) : Prop := ∀ t, o = .next t → t.ReportsOk

/-- The one state an outcome `.next t` leads to is `t`. -/
theorem reportsOkAfter_next {t : State} (h : t.ReportsOk) : ReportsOkAfter (.next t) := by
  rintro _ ⟨⟩
  exact h

/-- A meaning keeps the law of the report queue. -/
def KeepsReports (meaning : State → Host.Outcome State Fault Refusal) : Prop :=
  ∀ s : State, s.ReportsOk → ReportsOkAfter (meaning s)

/-- A meaning that carries out an operation keeps the law where the operation does. -/
theorem keepsReports_of_next {op : State → State} (h : ∀ s : State, s.ReportsOk → (op s).ReportsOk) :
    KeepsReports fun s => .next (op s) := fun s hs => reportsOkAfter_next (h s hs)

section
variable {owner : State → Taken} (h : OwnerKeepsReports owner)
include h

/-- A request that is taken is its owner's, and one that goes no further is the receiver's (log entry 3). -/
theorem OwnerKeepsReports.takeRequest {s : State} (hs : s.ReportsOk) (r : Request) : (takeRequest r owner s).ReportsOk := by
  by_cases hr : s.link.handed = some r
  · rw [takeRequest_handed hr]
    exact (h s.unhand hs.unhand).conclude _
  · have hsent := hs.takeBytes r.frameBytes
    rw [takeRequest_sent hr]
    split
    · exact (h _ hsent.handOff.unhand).conclude _
    · exact hsent

/-- A request keeps the law of the report queue where its owner does. -/
theorem OwnerKeepsReports.keeps {r : Request} : KeepsReports fun s => .next (Machine.takeRequest r owner s) :=
  keepsReports_of_next fun _ hs => h.takeRequest hs r

/-- So does an owner behind the walk (R125). -/
theorem OwnerKeepsReports.afterWalk : OwnerKeepsReports (afterWalk owner) := by
  intro s hs
  have howner := h s.finishWalk hs.finishWalk
  unfold Machine.afterWalk
  cases hc : owner s.finishWalk with
  | ok payload t => rw [hc] at howner; exact howner
  | deferred t => rw [hc] at howner; exact howner
  | refused result payload => exact hs
  | restart => exact hs

end

/-- An owner that only reads keeps the law. -/
theorem ownerKeepsReports_read (payload : State → List Byte) : OwnerKeepsReports fun s => .ok (payload s) s := fun _ hs => hs

/-- The draft checks keep the law, and so does what they let through (R4). -/
theorem ownerKeepsReports_withDraft (draft : Byte) {act : State → Fin 2 → DraftBody → Taken}
    (h : ∀ d body, OwnerKeepsReports fun s => act s d body) : OwnerKeepsReports fun s => s.withDraft draft (act s) := by
  intro s hs
  dsimp only [State.withDraft]
  split
  · exact hs
  · split
    · exact hs
    · exact hs
    · exact h _ _ s hs

/-- A new arming of an entry keeps the law (R116). -/
theorem ownerKeepsReports_rearm (slot : Byte) (arming : Arming) : OwnerKeepsReports fun s => s.rearm slot arming := by
  intro s hs
  dsimp only [State.rearm]
  split
  · exact hs
  · split
    · exact hs
    · split
      · exact hs
      · exact hs

/-! ## The requests that reach the queue -/

theorem execFetchReports_keepsReports (tag max : Byte) : KeepsReports (execFetchReports tag max) :=
  OwnerKeepsReports.keeps fun s hs => by
    split
    · exact hs.fetch _
    · exact hs

theorem execSetAttn_keepsReports (tag enable : Byte) : KeepsReports (execSetAttn tag enable) :=
  OwnerKeepsReports.keeps fun s hs => by
    split
    · exact hs.setAttn _
    · exact hs

theorem execSetTime_keepsReports (tag year month day hour minute second hold : Byte) :
    KeepsReports (execSetTime tag year month day hour minute second hold) :=
  OwnerKeepsReports.keeps fun s hs => by
    split
    · split
      · exact hs
      · rename_i f flag _ _ _
        cases flag
        · exact hs.takeWaiting
        · exact hs.takeWaiting
    · exact hs

theorem execDeletePage_keepsReports (tag page : Byte) : KeepsReports (execDeletePage tag page) :=
  OwnerKeepsReports.keeps fun s hs => by
    split
    · exact hs
    split
    · exact hs
    split
    · exact hs
    split
    · exact hs
    · exact hs.removePage _

theorem execSetList_keepsReports (tag list wrap : Byte) (steps : List (Byte × Byte)) :
    KeepsReports (execSetList tag list wrap steps) :=
  OwnerKeepsReports.keeps fun s hs => by
    split
    · split
      · exact hs
      · dsimp only [Taken.stateAfter]
        split
        · exact ((hs.setRotation _).setArchive _).reseatAndOffer _
        · exact hs
    · exact hs

theorem execSelectList_keepsReports (tag list : Byte) : KeepsReports (execSelectList tag list) :=
  OwnerKeepsReports.keeps fun s hs => by
    split
    · exact hs.reseatAndOffer _
    · exact hs

theorem execShowNow_keepsReports (tag page priority : Byte) (duration : Half) :
    KeepsReports (execShowNow tag page priority duration) :=
  OwnerKeepsReports.keeps fun s hs => by
    split
    · rename_i id p _ _
      split
      · exact hs
      · have hadmitted := hs.admitRecord ⟨.host id, id, p, readDuration duration.toNat⟩
        split
        · exact hs
        · rename_i hadmit
          rw [hadmit] at hadmitted
          exact hadmitted.recompute
    · exact hs

theorem execClearOverride_keepsReports (tag page : Byte) : KeepsReports (execClearOverride tag page) :=
  OwnerKeepsReports.keeps fun s hs => by
    split
    · exact hs
    · split
      · exact (hs.endOverrides _ _).recompute
      · exact hs

theorem execClearBelow_keepsReports (tag priority : Byte) : KeepsReports (execClearBelow tag priority) :=
  OwnerKeepsReports.keeps fun s hs => by
    split
    · exact hs.takeClearBelow _
    · exact hs

/-! ## The happenings -/

theorem execByteReceived_keepsReports (byte : Byte) (stopBit : Bool) : KeepsReports (execByteReceived byte stopBit) :=
  keepsReports_of_next fun s hs => by
    split
    · exact hs.takeByte _
    · exact hs

theorem execGapTimerExpiry_keepsReports : KeepsReports execGapTimerExpiry :=
  keepsReports_of_next fun s hs => by
    split
    · exact (hs.receive .hunt).offer _ _ _
    · exact hs

theorem execReplyTransmitted_keepsReports : KeepsReports execReplyTransmitted := by
  intro s hs
  unfold execReplyTransmitted
  split
  · exact reportsOkAfter_next hs
  · exact reportsOkAfter_next hs

theorem execWarmStartByRestart_keepsReports : KeepsReports execWarmStartByRestart := by
  intro s hs
  unfold execWarmStartByRestart
  split
  · exact reportsOkAfter_next ((hs.clearLive (by decide)).releaseAtStart)
  · exact reportsOkAfter_next hs

theorem execPowerOn_keepsReports (baudHigh resetnHigh : Bool) : KeepsReports (execPowerOn baudHigh resetnHigh) := by
  intro s _
  have hphase : (if resetnHigh = true then Phase.starting .powerOn else .resetHeld .powerOn) ≠ .listening := by
    cases resetnHigh <;> decide
  exact reportsOkAfter_next (resetMeetsTheLaw.reports.clearLive hphase)

theorem execResetnFall_keepsReports : KeepsReports execResetnFall := by
  intro s hs
  unfold execResetnFall
  split
  · exact reportsOkAfter_next hs
  · exact reportsOkAfter_next (hs.clearLive (by decide))

theorem execResetnRelease_keepsReports : KeepsReports execResetnRelease := by
  intro s hs
  unfold execResetnRelease
  split
  · exact reportsOkAfter_next (hs.releaseAtStart.setPhase Phase.noConfusion)
  · exact reportsOkAfter_next hs

/-- The start-up restore leaves the queue, which the startup record's mask and enable then govern (R142, R151, R152). -/
theorem execStartupComplete_keepsReports : KeepsReports execStartupComplete := by
  intro s hs
  unfold execStartupComplete
  split
  · rename_i cause hphase
    obtain ⟨hphase1, -, hreports1, -⟩ := s.startupRestore_leaves
    obtain ⟨hlength, hrecords, haside, -, -⟩ := hs.congr hphase1 hreports1
    have hstarting : s.startupRestore.phase ≠ .listening := by simp [hphase1, hphase]
    have happlied : s.startupRestore.applyStartup.ReportsOk :=
      ⟨hlength, hrecords, haside, fun hl => absurd hl hstarting, fun hl => absurd hl hstarting⟩
    exact reportsOkAfter_next ((happlied.queueStarted _ _).reseatAndOffer _)
  · exact reportsOkAfter_next hs

theorem execSyncFallingEdge_keepsReports : KeepsReports execSyncFallingEdge := by
  intro s hs
  unfold execSyncFallingEdge
  split
  · exact reportsOkAfter_next hs
  · exact reportsOkAfter_next hs

theorem execCrystalStopped_keepsReports : KeepsReports execCrystalStopped := by
  intro s hs
  unfold execCrystalStopped
  split
  · exact reportsOkAfter_next ((hs.takeWaiting.setCalendar _).offer _ _ _)
  · exact reportsOkAfter_next hs

theorem execCrystalResumed_keepsReports : KeepsReports execCrystalResumed := by
  intro s hs
  unfold execCrystalResumed
  split
  · exact reportsOkAfter_next ((hs.setCalendar _).restartPrescaler.offer _ _ _)
  · exact reportsOkAfter_next hs

theorem execSecondTick_keepsReports : KeepsReports execSecondTick := by
  intro s hs
  unfold execSecondTick
  dsimp only
  split
  · exact reportsOkAfter_next hs
  · exact reportsOkAfter_next hs

theorem execCalendarSecondCount_keepsReports : KeepsReports execCalendarSecondCount := by
  intro s hs
  unfold execCalendarSecondCount
  split
  · exact reportsOkAfter_next hs
  split
  · exact reportsOkAfter_next (hs.setOwed _).countSecond
  · exact reportsOkAfter_next hs
  · exact reportsOkAfter_next hs

theorem execHoldTimerCount_keepsReports : KeepsReports execHoldTimerCount := by
  intro s hs
  unfold execHoldTimerCount
  split
  · exact reportsOkAfter_next hs
  split
  · split
    · exact reportsOkAfter_next ((hs.setOwed _).countHold _)
    · exact reportsOkAfter_next hs
  · exact reportsOkAfter_next hs

theorem execHoldExpiry_keepsReports : KeepsReports execHoldExpiry := by
  intro s hs
  unfold execHoldExpiry
  split
  · split
    · exact reportsOkAfter_next ((hs.setOwed _).countHold _)
    · exact reportsOkAfter_next hs
  · exact reportsOkAfter_next hs

/-- A meaning that chooses between two operations keeps the law where both do. -/
theorem keepsReports_of_ite {due : State → Prop} [∀ s, Decidable (due s)] {op other : State → State}
    (hop : ∀ s : State, s.ReportsOk → (op s).ReportsOk) (hother : ∀ s : State, s.ReportsOk → (other s).ReportsOk) :
    KeepsReports fun s => if due s then .next (op s) else .next (other s) := by
  intro s hs
  dsimp only
  split
  · exact reportsOkAfter_next (hop s hs)
  · exact reportsOkAfter_next (hother s hs)

theorem execRotationAdvance_keepsReports : KeepsReports execRotationAdvance := by
  intro s hs
  unfold execRotationAdvance
  split
  · split
    · exact reportsOkAfter_next (hs.setOwed _).countDwell
    · exact reportsOkAfter_next hs
  · exact reportsOkAfter_next hs

theorem execSaveEnd_keepsReports (verified : Bool) : KeepsReports (execSaveEnd verified) := by
  intro s hs
  unfold execSaveEnd
  split
  · split
    · exact reportsOkAfter_next hs
    · exact reportsOkAfter_next hs
  · exact reportsOkAfter_next hs

theorem execRestoreComplete_keepsReports : KeepsReports execRestoreComplete := by
  intro s hs
  unfold execRestoreComplete
  split
  · dsimp only
    split
    · exact reportsOkAfter_next (((hs.finishWalk.installRestored _).setArchive _).reply _)
    · exact reportsOkAfter_next hs
  · exact reportsOkAfter_next hs

theorem execBankDamaged_keepsReports (bank : BankId) (sequence : Quad) : KeepsReports (execBankDamaged bank sequence) := by
  intro s hs
  unfold execBankDamaged
  split
  · exact reportsOkAfter_next hs
  · exact reportsOkAfter_next hs

/-! ## Every step -/

/-- Every command's meaning keeps the law of the report queue. -/
theorem exec_keepsReports (c : Instr) : KeepsReports (exec c) := by
  cases c with
  | ping | identify | status | getTime | getDisplay | listPages | listOverrides | archiveInfo =>
    exact (ownerKeepsReports_read _).keeps
  | restart | setReportMask | pauseRotation | resumeRotation => exact OwnerKeepsReports.keeps fun s hs => by exact hs
  | releaseTime | setSync | setGlass | setDisplay | setCell | clearCell | getCell | setValue | addValue | getValue | openDraft
  | readPage | getList | restore | setStartup =>
    exact OwnerKeepsReports.keeps fun s hs => by
      repeat' split
      all_goals exact hs
  | writeDots | writeBlink | bindField | unbindField | commit | abandon =>
    refine (ownerKeepsReports_withDraft _ fun d body s hs => ?_).keeps
    dsimp only
    repeat' split
    all_goals exact hs
  | setEntry | clearEntry | getEntry | save =>
    refine (OwnerKeepsReports.afterWalk fun s hs => ?_).keeps
    repeat' split
    all_goals exact hs
  | armEntry | disarmEntry => exact (ownerKeepsReports_rearm _ _).afterWalk.keeps
  | fetchReports => exact execFetchReports_keepsReports _ _
  | setAttn => exact execSetAttn_keepsReports _ _
  | setTime => exact execSetTime_keepsReports _ _ _ _ _ _ _ _
  | deletePage => exact execDeletePage_keepsReports _ _
  | setList => exact execSetList_keepsReports _ _ _ _
  | selectList => exact execSelectList_keepsReports _ _
  | showNow => exact execShowNow_keepsReports _ _ _ _
  | clearOverride => exact execClearOverride_keepsReports _ _
  | clearBelow => exact execClearBelow_keepsReports _ _
  | byteReceived => exact execByteReceived_keepsReports _ _
  | gapTimerExpiry => exact execGapTimerExpiry_keepsReports
  | requestHandoff => exact keepsReports_of_next fun _ hs => hs.handOff
  | replyTransmitted => exact execReplyTransmitted_keepsReports
  | warmStartByRestart => exact execWarmStartByRestart_keepsReports
  | powerOn => exact execPowerOn_keepsReports _ _
  | resetnFall => exact execResetnFall_keepsReports
  | resetnRelease => exact execResetnRelease_keepsReports
  | startupComplete => exact execStartupComplete_keepsReports
  | syncFallingEdge => exact execSyncFallingEdge_keepsReports
  | crystalStopped => exact execCrystalStopped_keepsReports
  | crystalResumed => exact execCrystalResumed_keepsReports
  | secondTick => exact execSecondTick_keepsReports
  | halfSecondTick => exact keepsReports_of_next fun _ hs => hs
  | calendarSecondCount => exact execCalendarSecondCount_keepsReports
  | minuteStart => exact keepsReports_of_next fun _ hs => hs.takeMinute
  | scheduleShow | scheduleSelect | scheduleClearBelow | scheduleDisplay => exact keepsReports_of_next fun _ hs => hs.handDue _
  | rotationAdvance => exact execRotationAdvance_keepsReports
  | dwellCount => exact keepsReports_of_ite (fun _ hs => hs) fun _ hs => (hs.setOwed _).countDwell
  | overrideCountdown => exact keepsReports_of_ite (fun _ hs => hs) fun _ hs => (hs.setOwed _).countOverrides
  | overrideExpiry => exact keepsReports_of_ite (fun _ hs => (hs.setOwed _).countOverrides) fun _ hs => hs
  | draftIdleCount => exact keepsReports_of_ite (fun _ hs => hs) fun _ hs => (hs.setOwed _).countDrafts
  | draftExpiry => exact keepsReports_of_ite (fun _ hs => (hs.setOwed _).countDrafts) fun _ hs => hs
  | holdTimerCount => exact execHoldTimerCount_keepsReports
  | holdExpiry => exact execHoldExpiry_keepsReports
  | frameBoundary =>
    exact keepsReports_of_ite (fun _ hs => hs.keepCadence.completeCommits.latchFrame) fun _ hs => hs
  | saveEnd => exact execSaveEnd_keepsReports _
  | restoreComplete => exact execRestoreComplete_keepsReports
  | bankDamaged => exact execBankDamaged_keepsReports _ _

/-- Settles O5: a step runs the meaning of the front command, and each meaning keeps the law of the report queue
(`exec_keepsReports`). -/
theorem stepKeepsReportQueueLaw : Obligations.StepKeepsReportQueueLaw := by
  unfold Obligations.StepKeepsReportQueueLaw
  intro s t hs he
  unfold step at he
  split at he
  · exact Host.Outcome.next.inj he ▸ hs
  · exact exec_keepsReports _ _ (hs.setPending _) t he

end Sys2Proof.Machine
end

section
/-! PROOFS. The receiver and the frame of a request, the link's checks, the hand-off and the replies, and the requests that the
link takes itself (R156 to R172). -/
namespace Sys2Proof.Machine
open Sys2Proof

/-! ## The check sum of a frame (R157) -/

/-- The bytes of a frame sum to 0 exactly with their check byte. -/
theorem checkByte_eq_iff {bytes : List Byte} {b : Byte} : checkByte bytes = b ↔ (bytes ++ [b]).foldl (· + ·) 0 = 0 := by
  rw [checkByte, List.foldl_append, List.foldl_cons, List.foldl_nil]
  exact neg_eq_iff_add_eq_zero

theorem sum_checkByte (bytes : List Byte) : (bytes ++ [checkByte bytes]).foldl (· + ·) 0 = 0 := checkByte_eq_iff.mp rfl

/-! ## The receiver, byte by byte (R156, R158, R159) -/

/-- The receiver's last move alone stands. -/
theorem State.receive_receive (s : State) (a b : Receiver) : (s.receive a).receive b = s.receive b := rfl

/-- A receiver that moves to where it is has not moved. -/
theorem State.receive_self {s : State} {a : Receiver} (h : s.link.receiver = a) : s.receive a = s := by
  subst h
  rfl

section
variable {s : State} (hphase : s.phase = .listening) (b : Byte)
include hphase

theorem State.takeByte_hunt (h : s.link.receiver = .hunt) : s.takeByte b = if b = 0xA5 then s.receive .length else s := by
  rw [State.takeByte, if_pos (State.listening_iff.mpr hphase), h]
  rfl

theorem State.takeByte_length (h : s.link.receiver = .length) :
    s.takeByte b =
      if 2 ≤ b.toNat ∧ b.toNat ≤ 65 then s.receive (.body b [] b.toNat) else (s.receive .hunt).offer .linkFault 3 0 := by
  rw [State.takeByte, if_pos (State.listening_iff.mpr hphase), h]

theorem State.takeByte_body {len : Byte} {taken : List Byte} {due : Nat} (h : s.link.receiver = .body len taken due) :
    s.takeByte b =
      if 1 < due then s.receive (.body len (taken ++ [b]) (due - 1)) else s.receive (.check len (taken ++ [b])) := by
  rw [State.takeByte, if_pos (State.listening_iff.mpr hphase), h]

theorem State.takeByte_check_fault {len : Byte} {taken : List Byte} (h : s.link.receiver = .check len taken)
    (hsum : (len :: taken ++ [b]).foldl (· + ·) 0 ≠ 0) : s.takeByte b = (s.receive .hunt).offer .linkFault 1 0 := by
  rw [State.takeByte, if_pos (State.listening_iff.mpr hphase), h]
  exact if_neg (mt checkByte_eq_iff.mp hsum)

theorem State.takeByte_check_intact {len tag code : Byte} {payload : List Byte}
    (h : s.link.receiver = .check len (tag :: code :: payload))
    (hsum : (len :: tag :: code :: payload ++ [b]).foldl (· + ·) 0 = 0) :
    s.takeByte b = (s.receive .hunt).checkRequest ⟨tag, code, payload⟩ := by
  rw [State.takeByte, if_pos (State.listening_iff.mpr hphase), h]
  exact if_pos (checkByte_eq_iff.mpr hsum)

end

/-- Settles O10: the receiver's table, one lemma for each of its states. -/
theorem receiverTakesBytes : Obligations.ReceiverTakesBytes := by
  unfold Obligations.ReceiverTakesBytes
  refine ⟨fun s b hphase => ⟨fun h => ?_, fun h hlow hhigh => ?_, fun h hout => ?_, fun len taken due h hdue => ?_,
    fun len taken h => ?_, fun len taken h hsum => ?_, fun len tag code payload h hsum => ?_⟩, fun s b => rfl,
    fun s b stop hphase => ?_, fun s h => ?_, fun s hphase h => ?_⟩
  · exact congrArg _ (State.takeByte_hunt hphase b h)
  · exact congrArg _ ((State.takeByte_length hphase b h).trans (if_pos ⟨hlow, hhigh⟩))
  · exact congrArg _ ((State.takeByte_length hphase b h).trans (if_neg (by omega)))
  · exact congrArg _ ((State.takeByte_body hphase b h).trans (if_pos hdue))
  · exact congrArg _ ((State.takeByte_body hphase b h).trans (if_neg (by decide)))
  · exact congrArg _ (State.takeByte_check_fault hphase b h hsum)
  · exact congrArg _ (State.takeByte_check_intact hphase b h hsum)
  · cases stop
    · rfl
    · exact congrArg _ (State.takeByte_starting (Bool.eq_false_iff.mpr (mt State.listening_iff.mp hphase)) b)
  · exact congrArg _ (if_neg fun hruns => hruns.2 h)
  · exact congrArg _ (if_pos ⟨State.listening_iff.mpr hphase, h⟩)

/-! ## The bytes of a frame, from HUNT to the checks (R157, R158) -/

@[simp] theorem State.takeBytes_nil (s : State) : s.takeBytes [] = s := rfl
@[simp] theorem State.takeBytes_cons (s : State) (b : Byte) (rest : List Byte) :
    s.takeBytes (b :: rest) = (s.takeByte b).takeBytes rest := rfl
@[simp] theorem State.takeBytes_append (s : State) (front back : List Byte) :
    s.takeBytes (front ++ back) = (s.takeBytes front).takeBytes back := List.foldl_append

/-- The receiver in BODY collects the bytes that are due, and then waits for CHECK. -/
theorem State.takeBytes_body {s : State} (hphase : s.phase = .listening) {len : Byte} {taken bytes : List Byte}
    (h : s.link.receiver = .body len taken bytes.length) (hdue : bytes ≠ []) :
    s.takeBytes bytes = s.receive (.check len (taken ++ bytes)) := by
  induction bytes generalizing s taken with
  | nil => exact absurd rfl hdue
  | cons b rest ih =>
    rw [State.takeBytes_cons, State.takeByte_body hphase b h]
    cases rest with
    | nil => rfl
    | cons c rest =>
      rw [if_pos (by simp)]
      have hrest := ih (s := s.receive (.body len (taken ++ [b]) ((c :: rest).length))) hphase rfl (by simp)
      rw [State.receive_receive, List.append_assoc] at hrest
      exact hrest

/-- LEN of a frame that is not too long is read as the payload's length plus 2. -/
theorem toNat_len {payload : List Byte} (h : payload.length ≤ 63) :
    (BitVec.ofNat 8 (payload.length + 2)).toNat = payload.length + 2 := by
  rw [BitVec.toNat_ofNat]
  exact Nat.mod_eq_of_lt (by omega)

/-- The frame of a request, received from HUNT, comes to the link's checks of that request (R158). -/
theorem State.takeBytes_frameBytes {s : State} {r : Request} (hphase : s.phase = .listening) (hhunt : s.link.receiver = .hunt)
    (hshort : r.payload.length ≤ 63) : s.takeBytes r.frameBytes = s.checkRequest r := by
  have hlen := toNat_len hshort
  have hsum := sum_checkByte (frameBody r.tag r.code r.payload)
  simp only [Request.frameBytes, frameBody, List.cons_append] at hsum ⊢
  generalize checkByte _ = check at hsum ⊢
  generalize BitVec.ofNat 8 (r.payload.length + 2) = len at hlen hsum ⊢
  have hstart : s.takeByte Config.requestSof = s.receive .length := (State.takeByte_hunt hphase _ hhunt).trans (if_pos rfl)
  have hread : (s.receive .length).takeByte len = s.receive (.body len [] (r.tag :: r.code :: r.payload).length) := by
    rw [State.takeByte_length (s := s.receive .length) hphase len rfl, if_pos (by omega), hlen]
    rfl
  have hbody : (s.receive (.body len [] (r.tag :: r.code :: r.payload).length)).takeBytes (r.tag :: r.code :: r.payload) =
      s.receive (.check len (r.tag :: r.code :: r.payload)) :=
    State.takeBytes_body (s := s.receive (.body len [] (r.tag :: r.code :: r.payload).length)) hphase rfl (List.cons_ne_nil _ _)
  have hchecked : (s.receive (.check len (r.tag :: r.code :: r.payload))).takeByte check = s.checkRequest r := by
    rw [State.takeByte_check_intact (s := s.receive (.check len (r.tag :: r.code :: r.payload))) hphase check rfl hsum,
      State.receive_receive, State.receive_self hhunt]
  calc s.takeBytes (Config.requestSof :: len :: r.tag :: r.code :: (r.payload ++ [check]))
      = ((s.receive .length).takeByte len).takeBytes ((r.tag :: r.code :: r.payload) ++ [check]) := by
        rw [State.takeBytes_cons, hstart]
        rfl
    _ = (s.receive (.check len (r.tag :: r.code :: r.payload))).takeByte check := by
        rw [hread, State.takeBytes_append, hbody]
        rfl
    _ = s.checkRequest r := hchecked

/-- Settles O9: the check byte makes the sum 0 (`sum_checkByte`), and the bytes go through the receiver's states in turn
(`State.takeBytes_frameBytes`). -/
theorem frameReachesTheChecks : Obligations.FrameReachesTheChecks := by
  unfold Obligations.FrameReachesTheChecks
  exact ⟨fun r => ⟨_, rfl, sum_checkByte (frameBody r.tag r.code r.payload)⟩,
    fun s r hphase hhunt hshort => State.takeBytes_frameBytes hphase hhunt hshort⟩

/-! ## The table of codes and payload lengths (R161, 11.1) -/

/-- The codes of 11.1 with one payload length each. -/
def exactLengths : List (Nat × Nat) :=
  [(0x02, 0), (0x03, 0), (0x04, 0), (0x08, 1), (0x09, 2), (0x0A, 1), (0x10, 7), (0x11, 0), (0x12, 0), (0x13, 1),
    (0x18, 2), (0x19, 4), (0x1A, 0), (0x20, 17), (0x21, 1), (0x22, 1), (0x24, 5), (0x25, 5), (0x26, 1),
    (0x30, 2), (0x33, 7), (0x34, 2), (0x35, 1), (0x36, 1), (0x37, 1), (0x38, 0), (0x39, 3),
    (0x41, 1), (0x42, 1), (0x43, 0), (0x44, 0), (0x48, 4), (0x49, 1), (0x4A, 1), (0x4B, 0),
    (0x50, 12), (0x51, 1), (0x52, 1), (0x53, 1), (0x54, 1), (0x58, 0), (0x59, 0), (0x5A, 0), (0x5B, 6)]

/-- The codes of 11.1 with every payload length of a range. -/
def rangedLengths : List (Nat × Nat × Nat) := [(0x01, 0, 63), (0x31, 3, 50), (0x32, 2, 50)]

/-- The code names a request of 11.1; 40 is SET_LIST. -/
def CodeNamed (code : Byte) : Prop :=
  code = 0x40 ∨ (∃ p ∈ exactLengths, p.1 = code.toNat) ∨ ∃ p ∈ rangedLengths, p.1 = code.toNat

/-- The code names a request that may carry `n` payload bytes. -/
def LengthAllowed (code : Byte) (n : Nat) : Prop :=
  (code = 0x40 ∧ ∃ k, k ≤ 16 ∧ n = 2 + 2 * k) ∨ (code.toNat, n) ∈ exactLengths ∨
    ∃ p ∈ rangedLengths, p.1 = code.toNat ∧ p.2.1 ≤ n ∧ n ≤ p.2.2

/-- The rule of a code with one payload length. -/
theorem lengthRule_of_exact {code : Byte} {n : Nat} (h : (code.toNat, n) ∈ exactLengths) :
    lengthRule code = some ⟨n, n, false⟩ := by
  have hrows : ∀ p ∈ exactLengths, lengthRule (BitVec.ofNat 8 p.1) = some ⟨p.2, p.2, false⟩ := by decide
  simpa using hrows _ h

/-- The rule of a code with a range of payload lengths. -/
theorem lengthRule_of_ranged {code : Byte} {p : Nat × Nat × Nat} (h : p ∈ rangedLengths) (hcode : p.1 = code.toNat) :
    lengthRule code = some ⟨p.2.1, p.2.2, false⟩ := by
  have hrows : ∀ p ∈ rangedLengths, lengthRule (BitVec.ofNat 8 p.1) = some ⟨p.2.1, p.2.2, false⟩ := by decide
  simpa [hcode] using hrows p h

/-- A code that the table gives a rule is SET_LIST's, or stands in one of the two lists with the bounds of its rule: the 256 codes
one by one. -/
theorem lengthRule_cases {code : Byte} {l : LengthRule} (h : lengthRule code = some l) :
    (code = 0x40 ∧ l = ⟨2, 34, true⟩) ∨ (∃ p ∈ exactLengths, p.1 = code.toNat ∧ l = ⟨p.2, p.2, false⟩) ∨
      ∃ p ∈ rangedLengths, p.1 = code.toNat ∧ l = ⟨p.2.1, p.2.2, false⟩ := by
  revert code l
  decide

/-- The table gives a rule to the codes of 11.1 and to no other. -/
theorem codeNamed_iff {code : Byte} : CodeNamed code ↔ ∃ l, lengthRule code = some l := by
  constructor
  · rintro (rfl | ⟨⟨c, n⟩, hp, rfl⟩ | ⟨p, hp, hcode⟩)
    · exact ⟨_, rfl⟩
    · exact ⟨_, lengthRule_of_exact hp⟩
    · exact ⟨_, lengthRule_of_ranged hp hcode⟩
  · rintro ⟨l, hl⟩
    rcases lengthRule_cases hl with ⟨hcode, -⟩ | ⟨p, hp, hcode, -⟩ | ⟨p, hp, hcode, -⟩
    · exact .inl hcode
    · exact .inr (.inl ⟨p, hp, hcode⟩)
    · exact .inr (.inr ⟨p, hp, hcode⟩)

theorem LengthRule.allows_iff {lo hi n : Nat} : (LengthRule.mk lo hi false).allows n = true ↔ lo ≤ n ∧ n ≤ hi := by
  simp [LengthRule.allows]

/-- SET_LIST carries its list, its wrap flag and up to 16 steps of two bytes (R63). -/
theorem LengthRule.setList_allows_iff {n : Nat} :
    (LengthRule.mk 2 34 true).allows n = true ↔ ∃ k, k ≤ 16 ∧ n = 2 + 2 * k := by
  simp only [LengthRule.allows, Bool.not_true, Bool.false_or, Bool.and_eq_true, decide_eq_true_eq, beq_iff_eq]
  constructor
  · rintro ⟨⟨hlow, hhigh⟩, heven⟩
    exact ⟨n / 2 - 1, by omega, by omega⟩
  · rintro ⟨k, hk, rfl⟩
    omega

/-- The rules allow the payload lengths of 11.1 and no other. -/
theorem lengthAllowed_iff {code : Byte} {n : Nat} :
    LengthAllowed code n ↔ ∃ l, lengthRule code = some l ∧ l.allows n = true := by
  constructor
  · rintro (⟨rfl, hn⟩ | hp | ⟨p, hp, hcode, hn⟩)
    · exact ⟨_, rfl, LengthRule.setList_allows_iff.mpr hn⟩
    · exact ⟨_, lengthRule_of_exact hp, LengthRule.allows_iff.mpr ⟨le_rfl, le_rfl⟩⟩
    · exact ⟨_, lengthRule_of_ranged hp hcode, LengthRule.allows_iff.mpr hn⟩
  · rintro ⟨l, hl, hn⟩
    rcases lengthRule_cases hl with ⟨hcode, rfl⟩ | ⟨⟨c, m⟩, hp, hcode, rfl⟩ | ⟨p, hp, hcode, rfl⟩
    · exact .inl ⟨hcode, LengthRule.setList_allows_iff.mp hn⟩
    · obtain ⟨hlow, hhigh⟩ := LengthRule.allows_iff.mp hn
      obtain rfl := Nat.le_antisymm hhigh hlow
      exact .inr (.inl (hcode ▸ hp))
    · exact .inr (.inr ⟨p, hp, hcode, LengthRule.allows_iff.mp hn⟩)

/-- No request carries more than the 63 payload bytes a frame can (R157). -/
theorem length_le_of_allowed {code : Byte} {n : Nat} (h : LengthAllowed code n) : n ≤ 63 := by
  have hexact : ∀ p ∈ exactLengths, p.2 ≤ 63 := by decide
  have hranged : ∀ p ∈ rangedLengths, p.2.2 ≤ 63 := by decide
  rcases h with ⟨-, k, hk, rfl⟩ | hp | ⟨p, hp, -, -, hn⟩
  · omega
  · exact hexact _ hp
  · exact hn.trans (hranged p hp)

/-! ## The checks in their order (R161, R163) -/

section
variable {s : State} {r : Request}

theorem State.checkRequest_badTag (htag : 15 < r.tag.toNat) : s.checkRequest r = s.refuseFrame r.tag .badField := if_pos htag

theorem State.checkRequest_dupTag (htag : r.tag.toNat ≤ 15) (hdup : r.tag ∈ s.link.unanswered) :
    s.checkRequest r = s.refuseFrame r.tag .dupTag := by
  rw [State.checkRequest, if_neg (Nat.not_lt.mpr htag), if_pos (List.contains_iff_mem.mpr hdup)]

theorem State.checkRequest_busy (htag : r.tag.toNat ≤ 15) (hnew : r.tag ∉ s.link.unanswered)
    (hfull : 4 ≤ s.link.unanswered.length) : s.checkRequest r = s.refuseFrame r.tag .busy := by
  rw [State.checkRequest, if_neg (Nat.not_lt.mpr htag), if_neg (mt List.contains_iff_mem.mp hnew)]
  exact if_pos hfull

/-- The checks of tag and room have passed (R161 checks 1 to 3). -/
def State.Admits (s : State) (r : Request) : Prop :=
  r.tag.toNat ≤ 15 ∧ r.tag ∉ s.link.unanswered ∧ s.link.unanswered.length < 4

/-- Behind the first three checks the table decides (R161 checks 4 and 5). -/
theorem State.Admits.checkRequest (h : s.Admits r) :
    s.checkRequest r =
      match lengthRule r.code with
      | none => s.refuseFrame r.tag .badCode
      | some l => if l.allows r.payload.length then s.acceptRequest r else s.refuseFrame r.tag .badLength := by
  obtain ⟨htag, hnew, hroom⟩ := h
  rw [State.checkRequest, if_neg (Nat.not_lt.mpr htag), if_neg (mt List.contains_iff_mem.mp hnew)]
  exact if_neg (Nat.not_le.mpr hroom)

theorem State.Admits.badCode (h : s.Admits r) (hcode : ¬CodeNamed r.code) : s.checkRequest r = s.refuseFrame r.tag .badCode := by
  rw [h.checkRequest]
  cases hl : lengthRule r.code with
  | none => rfl
  | some l => exact absurd (codeNamed_iff.mpr ⟨l, hl⟩) hcode

theorem State.Admits.badLength (h : s.Admits r) (hcode : CodeNamed r.code) (hlength : ¬LengthAllowed r.code r.payload.length) :
    s.checkRequest r = s.refuseFrame r.tag .badLength := by
  obtain ⟨l, hl⟩ := codeNamed_iff.mp hcode
  rw [h.checkRequest, hl]
  exact if_neg fun hallows => hlength (lengthAllowed_iff.mpr ⟨l, hl, hallows⟩)

theorem State.Admits.accepts (h : s.Admits r) (hlength : LengthAllowed r.code r.payload.length) :
    s.checkRequest r = s.acceptRequest r := by
  obtain ⟨l, hl, hallows⟩ := lengthAllowed_iff.mp hlength
  rw [h.checkRequest, hl]
  exact if_pos hallows

/-- The checks accept a request that passes the first three, or refuse it (R161). -/
theorem State.checkRequest_cases (s : State) (r : Request) :
    (s.Admits r ∧ s.checkRequest r = s.acceptRequest r) ∨ ∃ result, s.checkRequest r = s.refuseFrame r.tag result := by
  by_cases htag : 15 < r.tag.toNat
  · exact .inr ⟨_, State.checkRequest_badTag htag⟩
  have hlow := Nat.le_of_not_lt htag
  by_cases hdup : r.tag ∈ s.link.unanswered
  · exact .inr ⟨_, State.checkRequest_dupTag hlow hdup⟩
  by_cases hfull : 4 ≤ s.link.unanswered.length
  · exact .inr ⟨_, State.checkRequest_busy hlow hdup hfull⟩
  have hadmits : s.Admits r := ⟨hlow, hdup, Nat.lt_of_not_le hfull⟩
  by_cases hlength : LengthAllowed r.code r.payload.length
  · exact .inl ⟨hadmits, hadmits.accepts hlength⟩
  by_cases hcode : CodeNamed r.code
  · exact .inr ⟨_, hadmits.badLength hcode hlength⟩
  · exact .inr ⟨_, hadmits.badCode hcode⟩

end

/-- The places taken and reserved, told by what reserves them (R163, R165). -/
theorem State.freePlaces_pos_iff {s : State} :
    0 < s.freePlaces ↔ s.link.replies.length + (s.store.commits.length + (if s.archive.op = .none then 0 else 1) +
      (if s.link.handed = none then 0 else 1)) < 8 := by
  have hop : (if s.archiveBusy then 1 else 0) = if s.archive.op = .none then 0 else 1 := by
    simp [State.archiveBusy]
  have hhanded : (if s.link.handed.isSome then 1 else 0) = if s.link.handed = none then 0 else 1 := by
    cases s.link.handed <;> rfl
  simp only [State.freePlaces, State.reservedPlaces, hop, hhanded, Config.replyPlaces]
  exact Nat.sub_pos_iff_lt

/-- Settles O11: each check with its lemma, the last two told by the table (`codeNamed_iff`, `lengthAllowed_iff`), and a refusal by
whether a place is free (`State.freePlaces_pos_iff`). -/
theorem linkChecksInOrder : Obligations.LinkChecksInOrder := by
  unfold Obligations.LinkChecksInOrder
  refine ⟨fun s r => ⟨State.checkRequest_badTag, State.checkRequest_dupTag, State.checkRequest_busy,
    State.Admits.badCode, State.Admits.badLength, State.Admits.accepts⟩, fun s tag result => ⟨fun hfree => ?_, fun hfull => ?_⟩⟩
  · exact if_pos (State.freePlaces_pos_iff.mpr hfree)
  · exact if_neg (mt State.freePlaces_pos_iff.mp (Nat.not_lt.mpr hfull))

/-! ## The hand-off and the replies (R164, R168) -/

theorem State.handOff_of_canHandOff {s : State} {r : Request} {rest : List Request} (hin : s.link.inbox = r :: rest)
    (hcan : s.canHandOff = true) : s.handOff = s.setLink { s.link with inbox := rest, handed := some r } := by
  simp [State.handOff, hin, hcan]

/-- Without a request that waits, or without one of the three conditions, nothing is handed over. -/
theorem State.handOff_idle {s : State}
    (h : s.link.inbox = [] ∨ s.link.handed ≠ none ∨ s.freePlaces = 0 ∨ s.restartWaits = true) : s.handOff = s := by
  rcases s.handOff_cases with ⟨r, rest, hin, hcan, -⟩ | ⟨-, hsame⟩
  · obtain ⟨hnone, hfree, hquiet⟩ := State.canHandOff_iff.mp hcan
    rcases h with hempty | hhanded | hfull | hwaits
    · exact absurd (hin.symm.trans hempty) (List.cons_ne_nil _ _)
    · exact absurd hnone hhanded
    · exact absurd hfull hfree.ne'
    · exact absurd (hquiet.symm.trans hwaits) Bool.false_ne_true
  · exact hsame

/-- A reply is transmitted when one waits and no start is due (R168, R171). -/
theorem exec_replyTransmitted_front {s : State} {r : Reply} {rest : List Reply} (hfront : s.link.replies = r :: rest)
    (hdue : s.link.restartDue = false) :
    exec .replyTransmitted s =
      .next (s.setLink { s.link with replies := rest, lastFrame := r.frameBytes, restartDue := r.restarts }) := by
  simp [exec, execReplyTransmitted, hfront, hdue]

theorem exec_replyTransmitted_idle {s : State} (h : s.link.replies = [] ∨ s.link.restartDue = true) :
    exec .replyTransmitted s = .next s := by
  rcases h with h | h <;> simp [exec, execReplyTransmitted, h]

/-- Settles O12: a hand-off by `State.handOff`, and the frame of a reply by its check byte (`sum_checkByte`). -/
theorem handOffAndReply : Obligations.HandOffAndReply := by
  unfold Obligations.HandOffAndReply
  refine ⟨fun s => ⟨fun r rest hin hnone hfree hquiet => ?_, fun h => congrArg _ (State.handOff_idle h)⟩,
    fun s => ⟨fun r rest hfront hdue => ⟨_, exec_replyTransmitted_front hfront hdue, ?_⟩, exec_replyTransmitted_idle⟩⟩
  · exact congrArg _ (State.handOff_of_canHandOff hin (State.canHandOff_iff.mpr ⟨hnone, hfree, hquiet⟩))
  · exact sum_checkByte (frameBody r.tag r.result.code r.payload)

/-! ## PING, IDENTIFY and STATUS (R169, R170) -/

/-- A request that only reads is answered, and nothing else changes (R164). -/
theorem takeRequest_reads {r : Request} {s : State} (h : s.link.handed = some r) (payload : State → List Byte) :
    takeRequest r (fun s => .ok (payload s) s) s = s.answered (okReply r.tag (payload s.unhand)) := by
  rw [takeRequest_handed h]
  rfl

/-- Settles O14: each of the three only reads (`takeRequest_reads`), and STATUS's bytes are those of `statusBytes` in their order. -/
theorem linkRequestsReadThePart : Obligations.LinkRequestsReadThePart := by
  unfold Obligations.LinkRequestsReadThePart
  refine ⟨⟨?_, ?_⟩, ?_⟩
  · rintro tag bytes s ⟨_, ⟨⟩, h⟩
    exact congrArg _ (takeRequest_reads h fun _ => bytes)
  · rintro tag s ⟨_, ⟨⟩, h⟩
    refine (congrArg _ (takeRequest_reads h fun t => identification t.link.speed)).trans ?_
    unfold identification
    simp only [State.unhand_link]
    cases s.link.speed <;> rfl
  · rintro tag s ⟨_, ⟨⟩, h⟩
    refine ⟨statusBytes tag s.unhand, congrArg _ (takeRequest_reads h (statusBytes tag)), ?_⟩
    simp [statusBytes, halfBytes]

/-! ## A request that is sent (R158, R161, R164, log entry 3) -/

/-- A request command is the taking of its request by one owner. -/
theorem exec_takesRequest {c : Instr} {r : Request} (h : c.toRequest = some r) :
    ∃ owner, ∀ s, exec c s = .next (takeRequest r owner s) := by
  cases c <;> cases h <;> exact ⟨_, fun _ => rfl⟩

/-- Every command meets `Laws.WireLength.Statement`. -/
theorem wireLength_statement (c : Instr) : Laws.WireLength.Statement c := by
  cases c with
  | ping => exact Laws.WireLength.ping _ _
  | setCell => exact Laws.WireLength.setCell _ _ _
  | writeDots => exact Laws.WireLength.writeDots _ _ _ _
  | writeBlink => exact Laws.WireLength.writeBlink _ _ _ _
  | setList => exact Laws.WireLength.setList _ _ _ _
  | byteReceived | gapTimerExpiry | requestHandoff | replyTransmitted | warmStartByRestart | powerOn | resetnFall | resetnRelease
  | startupComplete | syncFallingEdge | crystalStopped | crystalResumed | secondTick | halfSecondTick | calendarSecondCount
  | minuteStart | scheduleShow | scheduleSelect | scheduleClearBelow | scheduleDisplay | dwellCount | rotationAdvance
  | overrideCountdown | overrideExpiry | draftIdleCount | draftExpiry | holdTimerCount | holdExpiry | frameBoundary | saveEnd
  | restoreComplete | bankDamaged => exact fun _ _ hr => nomatch hr
  | _ => exact fun h _ hr => Laws.WireLength.allowed h hr rfl rfl

section
variable {r : Request} {owner : State → Taken} {s : State}

theorem State.acceptRequest_canHandOff : (s.acceptRequest r).canHandOff = s.canHandOff := rfl

theorem State.refuseFrame_inbox (tag : Byte) (result : Result) : (s.refuseFrame tag result).link.inbox = s.link.inbox := by
  unfold State.refuseFrame
  split <;> rfl

/-- A request accepted by a link with no other waiting is handed over where the conditions hold (R161, R164). -/
theorem State.acceptRequest_handOff (hin : s.link.inbox = []) (hcan : s.canHandOff = true) :
    (s.acceptRequest r).handOff =
      s.setLink { s.link with unanswered := s.link.unanswered ++ [r.tag], handed := some r } := by
  rw [State.handOff_of_canHandOff (s := s.acceptRequest r) (r := r) (rest := []) (by simp [State.acceptRequest, hin]) hcan]
  simp [State.acceptRequest, State.setLink, hin]

/-- A request sent where nothing stands in the way does what it does once handed over. -/
theorem takeRequest_sent_through (hphase : s.phase = .listening) (hhunt : s.link.receiver = .hunt) (hin : s.link.inbox = [])
    (hcan : s.canHandOff = true) (hadmits : s.Admits r) (hlength : LengthAllowed r.code r.payload.length) :
    takeRequest r owner s =
      takeRequest r owner
        (s.setLink { s.link with unanswered := s.link.unanswered ++ [r.tag], handed := some r }) := by
  obtain ⟨hnone, -, -⟩ := State.canHandOff_iff.mp hcan
  have hsent : s.takeBytes r.frameBytes = s.acceptRequest r :=
    (State.takeBytes_frameBytes hphase hhunt (length_le_of_allowed hlength)).trans (hadmits.accepts hlength)
  have hinbox : (s.acceptRequest r).link.inbox = [r] := by simp [State.acceptRequest, hin]
  rw [takeRequest_sent (by simp [hnone]), hsent, if_pos ⟨hin, hinbox, hcan⟩, State.acceptRequest_handOff hin hcan,
    takeRequest_handed (by rfl)]
  rfl

/-- A request that the link refuses, or that waits in the inbox, goes no further than the checks (R161, R164, R167). -/
theorem takeRequest_sent_held (hphase : s.phase = .listening) (hhunt : s.link.receiver = .hunt) (hshort : r.payload.length ≤ 63)
    (hother : s.link.handed ≠ some r) (hheld : ¬s.Admits r ∨ s.link.inbox ≠ [] ∨ s.canHandOff ≠ true) :
    takeRequest r owner s = s.checkRequest r := by
  rw [takeRequest_sent hother, State.takeBytes_frameBytes hphase hhunt hshort]
  refine if_neg ?_
  rintro ⟨hin, hone, hcan⟩
  rcases s.checkRequest_cases r with ⟨hadmits, haccepted⟩ | ⟨result, hrefused⟩
  · rw [haccepted, State.acceptRequest_canHandOff] at hcan
    rcases hheld with hnot | hwaits | hcannot
    · exact hnot hadmits
    · exact hwaits hin
    · exact hcannot hcan
  · rw [hrefused, State.refuseFrame_inbox, hin] at hone
    exact absurd hone.symm (List.cons_ne_nil _ _)

/-- A request sent during a start is ignored (R172). -/
theorem takeRequest_sent_starting (hphase : s.phase ≠ .listening) (hother : s.link.handed ≠ some r) :
    takeRequest r owner s = s := by
  rw [takeRequest_sent hother, State.takeBytes_starting (Bool.eq_false_iff.mpr (mt State.listening_iff.mp hphase))]
  refine if_neg ?_
  rintro ⟨hin, hone, -⟩
  exact absurd (hone.symm.trans hin) (List.cons_ne_nil _ _)

end

/-- Settles O13: a request command is `takeRequest` of its owner (`exec_takesRequest`), and the request goes through
(`takeRequest_sent_through`), is held back (`takeRequest_sent_held`) or is ignored (`takeRequest_sent_starting`). -/
theorem sentRequestIsTaken : Obligations.SentRequestIsTaken := by
  unfold Obligations.SentRequestIsTaken
  refine ⟨fun c r s hwf hr hphase hhunt hin hnone hnew hroom hfree hquiet => ?_, fun c r s hr hother => ?_⟩
  · obtain ⟨owner, hexec⟩ := exec_takesRequest hr
    obtain ⟨htag, hlength⟩ := wireLength_statement c hwf r hr
    rw [hexec, hexec, takeRequest_sent_through hphase hhunt hin (State.canHandOff_iff.mpr ⟨hnone, hfree, hquiet⟩)
      ⟨htag, hnew, hroom⟩ (lengthAllowed_iff.mpr hlength)]
  · obtain ⟨owner, hexec⟩ := exec_takesRequest hr
    rw [hexec]
    refine ⟨fun hphase hhunt hshort hheld => congrArg _ (takeRequest_sent_held hphase hhunt hshort hother ?_),
      fun hphase => congrArg _ (takeRequest_sent_starting hphase hother)⟩
    rcases hheld with htag | hdup | hfull | hwaits | hhanded | hplaces | hrestart
    · exact .inl fun ⟨hlow, _, _⟩ => Nat.not_lt.mpr hlow htag
    · exact .inl fun ⟨_, hnew, _⟩ => hnew hdup
    · exact .inl fun ⟨_, _, hroom⟩ => Nat.not_lt.mpr hfull hroom
    · exact .inr (.inl hwaits)
    · exact .inr (.inr fun hcan => have ⟨hnone, _, _⟩ := State.canHandOff_iff.mp hcan; hhanded hnone)
    · exact .inr (.inr fun hcan => have ⟨_, hfree, _⟩ := State.canHandOff_iff.mp hcan; hfree.ne' hplaces)
    · exact .inr (.inr fun hcan =>
        have ⟨_, _, hquiet⟩ := State.canHandOff_iff.mp hcan; Bool.false_ne_true (hquiet.symm.trans hrestart))

end Sys2Proof.Machine
end

section
/-! PROOFS. A step runs the front command, and every command completes and leaves the queue of waiting commands: the happenings one
by one, and the requests by what their owners make of the queue (R164, R167). -/
namespace Sys2Proof.Machine
open Sys2Proof

/-! ## A step -/

/-- Settles O1: the queue's front is what `step` looks at. -/
theorem stepRunsFrontCommand : Obligations.StepRunsFrontCommand := by
  unfold Obligations.StepRunsFrontCommand
  intro s c rest hfront
  simp [step, hfront]

/-! ## What an owner makes of the waiting commands -/

/-- A meaning completes, and leaves the queue of waiting commands. -/
def Completes (meaning : State → Host.Outcome State Fault Refusal) : Prop :=
  ∀ s : State, ∃ t, meaning s = .next t ∧ t.pending = s.pending

/-- An owner leaves the queue of waiting commands. -/
def LeavesPending (owner : State → Taken) : Prop := ∀ s : State, ((owner s).stateAfter s).pending = s.pending

/-- The reply leaves the queue (R164). -/
@[simp] theorem State.conclude_pending (s : State) (tag : Byte) (x : Taken) :
    (s.conclude tag x).pending = (x.stateAfter s).pending := by
  cases x <;> rfl

theorem completes_of_next {op : State → State} (h : ∀ s : State, (op s).pending = s.pending) : Completes fun s => .next (op s) :=
  fun s => ⟨op s, rfl, h s⟩

theorem completes_same {s : State} :
    ∃ t, (Host.Outcome.next s : Host.Outcome State Fault Refusal) = .next t ∧ t.pending = s.pending := ⟨s, rfl, rfl⟩

/-- A meaning that chooses between two operations completes. -/
theorem completes_of_ite {due : State → Prop} [∀ s, Decidable (due s)] {op other : State → State}
    (hop : ∀ s : State, (op s).pending = s.pending) (hother : ∀ s : State, (other s).pending = s.pending) :
    Completes fun s => if due s then .next (op s) else .next (other s) := by
  intro s
  dsimp only
  split
  · exact ⟨_, rfl, hop s⟩
  · exact ⟨_, rfl, hother s⟩

section
variable {owner : State → Taken} (h : LeavesPending owner)
include h

/-- The link's part of a request leaves the queue, whether it is taken or goes no further (log entry 3). -/
theorem LeavesPending.takeRequest (r : Request) (s : State) : (takeRequest r owner s).pending = s.pending := by
  by_cases hr : s.link.handed = some r
  · simp [takeRequest_handed hr, h s.unhand]
  · rw [takeRequest_sent hr]
    split
    · simp [State.takeHanded, h (s.takeBytes r.frameBytes).handOff.unhand]
    · simp

/-- A request completes. -/
theorem LeavesPending.completes {r : Request} : Completes fun s => .next (Machine.takeRequest r owner s) :=
  completes_of_next (h.takeRequest r)

/-- A completed walk leaves the queue, and so does an owner behind it (R125). -/
theorem LeavesPending.afterWalk : LeavesPending (afterWalk owner) := by
  intro s
  have howner := h s.finishWalk
  unfold Machine.afterWalk
  cases hc : owner s.finishWalk with
  | ok payload t => rw [hc] at howner; exact howner.trans s.finishWalk_pending
  | deferred t => rw [hc] at howner; exact howner.trans s.finishWalk_pending
  | refused result payload => rfl
  | restart => rfl

end

theorem leavesPending_read (payload : State → List Byte) : LeavesPending fun s => .ok (payload s) s := fun _ => rfl

/-- The draft checks leave the queue, and so does what they let through (R4). -/
theorem leavesPending_withDraft (draft : Byte) {act : State → Fin 2 → DraftBody → Taken}
    (h : ∀ d body, LeavesPending fun s => act s d body) : LeavesPending fun s => s.withDraft draft (act s) := by
  intro s
  dsimp only [State.withDraft]
  split
  · rfl
  · split
    · rfl
    · rfl
    · exact h _ _ s

/-- A new arming of an entry leaves the queue (R116). -/
theorem leavesPending_rearm (slot : Byte) (arming : Arming) : LeavesPending fun s => s.rearm slot arming := by
  intro s
  dsimp only [State.rearm]
  split
  · rfl
  · split
    · rfl
    · split <;> rfl

@[simp] theorem State.markDirty_pending (s : State) : s.markDirty.pending = s.pending := rfl

/-! ## The requests that reach other blocks -/

/-- What a SET_TIME writes leaves the queue (R100). -/
@[simp] theorem State.setTime_pending (s : State) (f : CalendarFields) (hold : Bool) : (s.setTime f hold).pending = s.pending := by
  cases hold <;> simp [State.setTime]

theorem execShowNow_completes (tag page priority : Byte) (duration : Half) : Completes (execShowNow tag page priority duration) :=
  LeavesPending.completes fun s => by
    split
    · rename_i id p _ _
      split
      · rfl
      · have hadmitted := s.admit_pending ⟨.host id, id, p, readDuration duration.toNat⟩
        split
        · rfl
        · rename_i hadmit
          rw [hadmit] at hadmitted
          simpa [Taken.stateAfter] using hadmitted
    · rfl

theorem execSetList_completes (tag list wrap : Byte) (steps : List (Byte × Byte)) : Completes (execSetList tag list wrap steps) :=
  LeavesPending.completes fun s => by
    split
    · split
      · rfl
      · dsimp only [Taken.stateAfter]
        split <;> simp
    · rfl

/-! ## The happenings of the link and of time -/

theorem execReplyTransmitted_completes : Completes execReplyTransmitted := by
  intro s
  unfold execReplyTransmitted
  split <;> exact ⟨_, rfl, rfl⟩

theorem execSyncFallingEdge_completes : Completes execSyncFallingEdge := by
  intro s
  unfold execSyncFallingEdge
  split
  · exact ⟨_, rfl, s.releaseHold_pending⟩
  · exact completes_same

theorem execCrystalStopped_completes : Completes execCrystalStopped := by
  intro s
  unfold execCrystalStopped
  split
  · exact ⟨_, rfl, by simp⟩
  · exact completes_same

theorem execCrystalResumed_completes : Completes execCrystalResumed := by
  intro s
  unfold execCrystalResumed
  split
  · exact ⟨_, rfl, by simp⟩
  · exact completes_same

theorem execCalendarSecondCount_completes : Completes execCalendarSecondCount := by
  intro s
  unfold execCalendarSecondCount
  split
  · exact completes_same
  split
  · exact ⟨_, rfl, State.countSecond_pending _⟩
  · exact ⟨_, rfl, rfl⟩
  · exact completes_same

theorem execHoldTimerCount_completes : Completes execHoldTimerCount := by
  intro s
  unfold execHoldTimerCount
  split
  · exact completes_same
  split
  · split
    · exact ⟨_, rfl, State.countHold_pending _ _⟩
    · exact ⟨_, rfl, rfl⟩
  · exact completes_same

theorem execHoldExpiry_completes : Completes execHoldExpiry := by
  intro s
  unfold execHoldExpiry
  split
  · split
    · exact ⟨_, rfl, State.countHold_pending _ _⟩
    · exact completes_same
  · exact completes_same

theorem execRotationAdvance_completes : Completes execRotationAdvance := by
  intro s
  unfold execRotationAdvance
  split
  · split
    · exact ⟨_, rfl, State.countDwell_pending _⟩
    · exact completes_same
  · exact completes_same

/-- The completion of the pending commits leaves the queue (R14). -/
@[simp] theorem State.completeCommits_pending (s : State) : s.completeCommits.pending = s.pending := by
  unfold State.completeCommits
  generalize s.store.commits = commits
  induction commits generalizing s with
  | nil => rfl
  | cons e rest ih => rw [List.foldl_cons, ih, State.completeCommit_pending]

/-! ## The happenings of the archive -/

@[simp] theorem State.abandonDraft_pending (s : State) (d : Fin 2) : (s.abandonDraft d).pending = s.pending := by
  unfold State.abandonDraft
  split <;> rfl

/-- The installation of a restored image leaves the queue (R140). -/
@[simp] theorem State.installRestored_pending (s : State) (image : Collections) :
    (s.installRestored image).pending = s.pending := by
  simp [State.installRestored, State.install]

theorem execSaveEnd_completes (verified : Bool) : Completes (execSaveEnd verified) := by
  intro s
  unfold execSaveEnd
  split
  · split <;> exact ⟨_, rfl, rfl⟩
  · exact completes_same

theorem execRestoreComplete_completes : Completes execRestoreComplete := by
  intro s
  unfold execRestoreComplete
  split
  · dsimp only
    split
    · exact ⟨_, rfl, by simp⟩
    · exact ⟨_, rfl, rfl⟩
  · exact completes_same

theorem execBankDamaged_completes (bank : BankId) (sequence : Quad) : Completes (execBankDamaged bank sequence) := by
  intro s
  unfold execBankDamaged
  split
  · exact ⟨_, rfl, rfl⟩
  · exact completes_same

/-! ## The starts -/

/-- The instant of reset release leaves the queue (R108). -/
@[simp] theorem State.releaseAtStart_pending (s : State) : s.releaseAtStart.pending = s.pending := by
  unfold State.releaseAtStart
  split
  · exact s.releaseHold_pending
  · rfl

theorem execResetnFall_completes : Completes execResetnFall := by
  intro s
  unfold execResetnFall
  split
  · exact completes_same
  · exact ⟨_, rfl, rfl⟩

theorem execResetnRelease_completes : Completes execResetnRelease := by
  intro s
  unfold execResetnRelease
  split
  · exact ⟨_, rfl, s.releaseAtStart_pending⟩
  · exact completes_same

theorem execWarmStartByRestart_completes : Completes execWarmStartByRestart :=
  completes_of_ite (fun s => (s.clearLive (.starting .restart)).releaseAtStart_pending) fun _ => rfl

/-- The start-up restore leaves the queue (R142). -/
@[simp] theorem State.startupRestore_pending (s : State) : s.startupRestore.pending = s.pending := by
  unfold State.startupRestore
  dsimp only
  split <;> rfl

theorem execStartupComplete_completes : Completes execStartupComplete := by
  intro s
  unfold execStartupComplete
  split
  · exact ⟨_, rfl, by simp [State.queueStarted, State.applyStartup]⟩
  · exact completes_same

/-! ## Every command -/

/-- Every command completes, and leaves the queue of waiting commands. -/
theorem exec_completes (c : Instr) : Completes (exec c) := by
  cases c with
  | ping | identify | status | getTime | getDisplay | listPages | listOverrides | archiveInfo =>
    exact (leavesPending_read _).completes
  | restart | setReportMask | pauseRotation | resumeRotation => exact LeavesPending.completes fun s => rfl
  | fetchReports | setAttn | setSync | setGlass | setDisplay | setCell | clearCell | getCell | setValue | addValue | getValue
  | openDraft | readPage | getList | restore | setStartup =>
    exact LeavesPending.completes fun s => by
      repeat' split
      all_goals rfl
  | setTime | releaseTime | deletePage | selectList | clearOverride | clearBelow =>
    exact LeavesPending.completes fun s => by
      repeat' split
      all_goals simp [Taken.stateAfter, Taken.no]
  | writeDots | writeBlink | bindField | unbindField | commit | abandon =>
    refine (leavesPending_withDraft _ fun d body s => ?_).completes
    dsimp only
    repeat' split
    all_goals rfl
  | setEntry | clearEntry | getEntry | save =>
    refine (LeavesPending.afterWalk fun s => ?_).completes
    repeat' split
    all_goals rfl
  | armEntry | disarmEntry => exact (leavesPending_rearm _ _).afterWalk.completes
  | setList => exact execSetList_completes _ _ _ _
  | showNow => exact execShowNow_completes _ _ _ _
  | byteReceived byte stopBit =>
    cases stopBit
    · exact completes_of_next fun _ => rfl
    · exact completes_of_next fun s => s.takeByte_pending byte
  | gapTimerExpiry => exact completes_of_next fun s => by split <;> rfl
  | requestHandoff => exact completes_of_next State.handOff_pending
  | replyTransmitted => exact execReplyTransmitted_completes
  | warmStartByRestart => exact execWarmStartByRestart_completes
  | powerOn => exact completes_of_next fun _ => rfl
  | resetnFall => exact execResetnFall_completes
  | resetnRelease => exact execResetnRelease_completes
  | startupComplete => exact execStartupComplete_completes
  | syncFallingEdge => exact execSyncFallingEdge_completes
  | crystalStopped => exact execCrystalStopped_completes
  | crystalResumed => exact execCrystalResumed_completes
  | secondTick => exact completes_of_ite (fun _ => rfl) fun _ => rfl
  | halfSecondTick => exact completes_of_next fun _ => rfl
  | calendarSecondCount => exact execCalendarSecondCount_completes
  | minuteStart => exact completes_of_next State.takeMinute_pending
  | scheduleShow | scheduleSelect | scheduleClearBelow | scheduleDisplay => exact completes_of_next fun s => s.handDue_pending _
  | rotationAdvance => exact execRotationAdvance_completes
  | dwellCount => exact completes_of_ite (fun _ => rfl) fun _ => State.countDwell_pending _
  | overrideCountdown => exact completes_of_ite (fun _ => rfl) fun _ => State.countOverrides_pending _
  | overrideExpiry => exact completes_of_ite (fun _ => State.countOverrides_pending _) fun _ => rfl
  | draftIdleCount => exact completes_of_ite (fun _ => rfl) fun _ => State.countDrafts_pending _
  | draftExpiry => exact completes_of_ite (fun _ => State.countDrafts_pending _) fun _ => rfl
  | holdTimerCount => exact execHoldTimerCount_completes
  | holdExpiry => exact execHoldExpiry_completes
  | frameBoundary => exact completes_of_ite (fun s => by simp) State.keepCadence_pending
  | saveEnd => exact execSaveEnd_completes _
  | restoreComplete => exact execRestoreComplete_completes
  | bankDamaged => exact execBankDamaged_completes _ _

/-- Settles O2: every meaning completes (`exec_completes`). -/
theorem commandsCompleteAndLeaveTheQueue : Obligations.CommandsCompleteAndLeaveTheQueue := by
  unfold Obligations.CommandsCompleteAndLeaveTheQueue
  exact exec_completes

end Sys2Proof.Machine
end

section
/-! PROOFS. A well-formed request reads back from its code and payload as the command it stands for (R173, 11.1, 11.2): the fields
of several bytes, the requests whose payload varies in length, and then every command. -/
namespace Sys2Proof

/-! ## The fields of 11.2 read back from their bytes (R173) -/

/-- The bytes of a two-byte field, least significant byte first, are those `halfOf` puts together. -/
theorem halfOf_extractLsb' (w : Half) : halfOf (w.extractLsb' 0 8) (w.extractLsb' 8 8) = w :=
  (BitVec.extractLsb'_append_extractLsb'_eq_extractLsb' rfl).trans BitVec.extractLsb'_eq_self

/-- The bytes of a four-byte field, least significant byte first, are those `quadOf` puts together. -/
theorem quadOf_extractLsb' (w : Quad) :
    quadOf (w.extractLsb' 0 8) (w.extractLsb' 8 8) (w.extractLsb' 16 8) (w.extractLsb' 24 8) = w := by
  have upper : w.extractLsb' 24 8 ++ w.extractLsb' 16 8 = w.extractLsb' 16 16 :=
    BitVec.extractLsb'_append_extractLsb'_eq_extractLsb' rfl
  have upperThree : w.extractLsb' 16 16 ++ w.extractLsb' 8 8 = w.extractLsb' 8 24 :=
    BitVec.extractLsb'_append_extractLsb'_eq_extractLsb' rfl
  have whole : w.extractLsb' 8 24 ++ w.extractLsb' 0 8 = w.extractLsb' 0 32 :=
    BitVec.extractLsb'_append_extractLsb'_eq_extractLsb' rfl
  calc quadOf (w.extractLsb' 0 8) (w.extractLsb' 8 8) (w.extractLsb' 16 8) (w.extractLsb' 24 8)
      = w.extractLsb' 0 32 := by rw [quadOf, upper, upperThree, whole]
    _ = w := BitVec.extractLsb'_eq_self

/-- Pairs read back from their bytes. -/
theorem pairsOf_pairBytes (l : List (Byte × Byte)) : pairsOf (pairBytes l) = some l := by
  induction l with
  | nil => rfl
  | cons p rest ih =>
    obtain ⟨x, y⟩ := p
    simp [pairBytes, pairsOf, ih]

/-! ## The requests whose payload varies in length, or is a list of pairs (11.1, 11.2) -/

namespace Request

theorem command_ping {tag : Byte} {bytes : List Byte} (h : bytes.length ≤ 63) :
    (Request.mk tag 0x01 bytes).command = some (.ping tag bytes) :=
  if_pos h

theorem command_setCell {tag cell : Byte} {refs : List (Byte × Byte)} (h : refs.length = 8) :
    (Request.mk tag 0x20 (cell :: pairBytes refs)).command = some (.setCell tag cell refs) := by
  have hbytes : (pairBytes refs).length = 16 := by rw [pairBytes_length, h]
  exact (if_pos hbytes).trans (congrArg (Option.map _) (pairsOf_pairBytes refs))

theorem command_writeDots {tag draft offset : Byte} {bytes : List Byte} (hlo : 1 ≤ bytes.length)
    (hhi : bytes.length ≤ 48) :
    (Request.mk tag 0x31 (draft :: offset :: bytes)).command = some (.writeDots tag draft offset bytes) :=
  if_pos ⟨hlo, hhi⟩

theorem command_writeBlink {tag draft offset : Byte} {bytes : List Byte} (h : bytes.length ≤ 48) :
    (Request.mk tag 0x32 (draft :: offset :: bytes)).command = some (.writeBlink tag draft offset bytes) :=
  if_pos h

theorem command_setList {tag list wrap : Byte} {steps : List (Byte × Byte)} (h : steps.length ≤ 16) :
    (Request.mk tag 0x40 (list :: wrap :: pairBytes steps)).command = some (.setList tag list wrap steps) := by
  have hbytes : (pairBytes steps).length ≤ 32 := by rw [pairBytes_length]; omega
  exact (if_pos hbytes).trans (congrArg (Option.map _) (pairsOf_pairBytes steps))

end Request

/-! ## What well-formedness says of those requests' lengths -/

/-- A check of the tag and one of a length holds of the length. -/
theorem of_tagOk_and_decide {tag : Byte} {p : Prop} [Decidable p] (h : (tagOk tag && decide p) = true) : p :=
  of_decide_eq_true (Bool.and_eq_true_iff.mp h).2

theorem Instr.length_of_wellFormed_ping {tag : Byte} {bytes : List Byte}
    (h : (Instr.ping tag bytes).wellFormed = true) : bytes.length ≤ 63 :=
  of_tagOk_and_decide (tag := tag) h

theorem Instr.length_of_wellFormed_setCell {tag cell : Byte} {refs : List (Byte × Byte)}
    (h : (Instr.setCell tag cell refs).wellFormed = true) : refs.length = 8 :=
  of_tagOk_and_decide (tag := tag) h

theorem Instr.length_of_wellFormed_writeDots {tag draft offset : Byte} {bytes : List Byte}
    (h : (Instr.writeDots tag draft offset bytes).wellFormed = true) : 1 ≤ bytes.length ∧ bytes.length ≤ 48 := by
  obtain ⟨hlo, hhi⟩ := Bool.and_eq_true_iff.mp h
  exact ⟨of_tagOk_and_decide (tag := tag) hlo, of_decide_eq_true hhi⟩

theorem Instr.length_of_wellFormed_writeBlink {tag draft offset : Byte} {bytes : List Byte}
    (h : (Instr.writeBlink tag draft offset bytes).wellFormed = true) : bytes.length ≤ 48 :=
  of_tagOk_and_decide (tag := tag) h

theorem Instr.length_of_wellFormed_setList {tag list wrap : Byte} {steps : List (Byte × Byte)}
    (h : (Instr.setList tag list wrap steps).wellFormed = true) : steps.length ≤ 16 :=
  of_tagOk_and_decide (tag := tag) h

/-! ## Every command -/

/-- A request of one-byte fields alone is read by its row of the tables; one with a longer field by that field's law above. -/
theorem Request.command_of_toRequest {c : Instr} {r : Request} (hwf : c.wellFormed = true) (hr : c.toRequest = some r) :
    r.command = some c := by
  cases c with
  | ping =>
    cases hr
    exact Request.command_ping (Instr.length_of_wellFormed_ping hwf)
  | setCell =>
    cases hr
    exact Request.command_setCell (Instr.length_of_wellFormed_setCell hwf)
  | writeDots =>
    cases hr
    obtain ⟨hlo, hhi⟩ := Instr.length_of_wellFormed_writeDots hwf
    exact Request.command_writeDots hlo hhi
  | writeBlink =>
    cases hr
    exact Request.command_writeBlink (Instr.length_of_wellFormed_writeBlink hwf)
  | setList =>
    cases hr
    exact Request.command_setList (Instr.length_of_wellFormed_setList hwf)
  | setReportMask tag mask =>
    cases hr
    exact congrArg (fun w => some (Instr.setReportMask tag w)) (halfOf_extractLsb' mask)
  | setValue tag register value =>
    cases hr
    exact congrArg (fun w => some (Instr.setValue tag register w)) (quadOf_extractLsb' value)
  | addValue tag register delta =>
    cases hr
    exact congrArg (fun w => some (Instr.addValue tag register w)) (quadOf_extractLsb' delta)
  | showNow tag page priority duration =>
    cases hr
    exact congrArg (fun w => some (Instr.showNow tag page priority w)) (halfOf_extractLsb' duration)
  | setEntry tag slot minute hour day weekdays month flags action arg1 arg2 duration =>
    cases hr
    exact congrArg (fun w => some (Instr.setEntry tag slot minute hour day weekdays month flags action arg1 arg2 w))
      (halfOf_extractLsb' duration)
  | setStartup tag list mode contrast mask attn =>
    cases hr
    exact congrArg (fun w => some (Instr.setStartup tag list mode contrast w attn)) (halfOf_extractLsb' mask)
  | identify | status | restart | fetchReports | setAttn | setTime | releaseTime | getTime | setSync | setGlass | setDisplay
  | getDisplay | clearCell | getCell | getValue | openDraft | bindField | unbindField | commit | abandon | deletePage
  | listPages | readPage | getList | selectList | pauseRotation | resumeRotation | clearOverride | clearBelow | listOverrides
  | clearEntry | armEntry | disarmEntry | getEntry | save | restore | archiveInfo =>
    cases hr
    rfl
  | byteReceived | gapTimerExpiry | requestHandoff | replyTransmitted | warmStartByRestart | powerOn | resetnFall | resetnRelease
  | startupComplete | syncFallingEdge | crystalStopped | crystalResumed | secondTick | halfSecondTick | calendarSecondCount
  | minuteStart | scheduleShow | scheduleSelect | scheduleClearBelow | scheduleDisplay | dwellCount | rotationAdvance
  | overrideCountdown | overrideExpiry | draftIdleCount | draftExpiry | holdTimerCount | holdExpiry | frameBoundary | saveEnd
  | restoreComplete | bankDamaged =>
    cases hr

/-- Settles O8: every command by its row of the tables (`Request.command_of_toRequest`). -/
theorem requestReadsBack : Obligations.RequestReadsBack := by
  unfold Obligations.RequestReadsBack
  exact fun _ _ hwf hr => Request.command_of_toRequest hwf hr

end Sys2Proof
end
